-- ==== Sys2Proof/Word.lean ====
section
/-! DEFINITION. The widths of the macro-transport core: bytes, 32-bit values, the seven-bit groups of a varint
(00_scope.md R11, 40_varint.md R90). -/

namespace Sys2Proof

/-- An unsigned integer 0..255, bit 0 least significant (00_scope.md R11). -/
abbrev Byte := BitVec 8

/-- An unsigned integer 0..2^32-1: varint values, loop counts, hold times, clock values
(00_scope.md R11, R8 `VARINT_BITS` and `CLOCK_W`). -/
abbrev U32 := BitVec 32

/-- Seven bits of a varint value carried in one byte (00_scope.md R17 "Group"). -/
abbrev Group := BitVec 7

/-- A varint operand as an instruction encodes it: its groups, the least significant first
(40_varint.md R90). All groups are kept, so a non-minimal varint and the dropped bits of a fifth byte
(30_encoding.md R73) are not lost. -/
abbrev Varint := List Group

/-- The field mask of a complex report, bits 6..0 of its opcode (30_encoding.md R66). -/
abbrev Mask := BitVec 7

end Sys2Proof
end

