-- ==== Sys2Proof/Config.lean ====
section
/-! DEFINITION. The parameters of the block (00_scope.md R8): those the spec leaves OPEN are opaque constants, so that
nothing can be proved of their values; those it fixes or decides are plain constants. With them the types the
parameters speak of: the report and its fields (10_state.md R27), the wire commands (45_receive_path.md R243). -/

namespace Sys2Proof

/-- The seven report fields in their order, field 0 first (10_state.md R27). -/
inductive Field where
  | buttonsLow
  | buttonsHigh
  | hat
  | lx
  | ly
  | rx
  | ry
deriving DecidableEq, Repr, Inhabited

/-- A report, "a 7-byte structure" (10_state.md R27). -/
structure Report where
  buttonsLow : Byte
  buttonsHigh : Byte
  hat : Byte
  lx : Byte
  ly : Byte
  rx : Byte
  ry : Byte
deriving DecidableEq, Repr, Inhabited

/-- One of the five results of `CMD_DECODE` (45_receive_path.md R243). -/
inductive Command where
  | appendInstruction (bytes : List Byte)
  | clearProgram
  | start
  | stop
  | nothing
deriving DecidableEq, Repr, Inhabited

namespace Config

/-- `NEUTRAL`, the all-centered, all-released report (00_scope.md R18). -/
def neutral : Report := ⟨0x00, 0x00, 0x00, 0x80, 0x80, 0x80, 0x80⟩

/-- One less than `BUF_CAP`: any natural number (00_scope.md R8, 92_eei_decisions.md D2). -/
opaque bufCapLessOne : Nat

/-- `BUF_CAP`, OPEN, "a natural number at least 1" (00_scope.md R8). -/
def bufCap : Nat := bufCapLessOne + 1

/-- One less than `LOOP_MAX_DEPTH`: any natural number (00_scope.md R8, 92_eei_decisions.md D3). -/
opaque loopMaxDepthLessOne : Nat

/-- `LOOP_MAX_DEPTH`, OPEN, "a natural number at least 1" (00_scope.md R8). -/
def loopMaxDepth : Nat := loopMaxDepthLessOne + 1

/-- The presets of the opcodes other than `0x10`: not in the source (92_eei_decisions.md D4), nothing known of them. -/
opaque presetTable : Byte → Report

/-- `PRESET`, OPEN but for `PRESET(0x10) = NEUTRAL` (00_scope.md R8, 43_vm_instructions.md R174, R176). Only the 39
opcodes `0x10`..`0x36` are ever looked up. -/
def preset (op : Byte) : Report := if op = 0x10 then neutral else presetTable op

/-- `ENC_CAP`, OPEN (00_scope.md R8). -/
opaque encCap : Nat

/-- `DEC_CAP`, OPEN (00_scope.md R8). -/
opaque decCap : Nat

/-- `CRC_ENABLE`, OPEN (00_scope.md R8, 45_receive_path.md R242). -/
opaque crcEnable : Bool

/-- `CMD_DECODE`, OPEN: a total function from a body to a command, nothing known of it (45_receive_path.md R243). -/
opaque cmdDecode : List Byte → Command

/-- `FIELD_OF_BIT`: bit `i` of a complex report's opcode selects field `i` (00_scope.md R8, decided by
92_eei_decisions.md D5; bit 7 is the class bit and is not asked about). -/
def fieldOfBit : Nat → Field
  | 0 => .buttonsLow
  | 1 => .buttonsHigh
  | 2 => .hat
  | 3 => .lx
  | 4 => .ly
  | 5 => .rx
  | _ => .ry

/-- `REPORT_FIELDS` (00_scope.md R8). -/
def reportFields : Nat := 7

/-- `VARINT_MAX_GROUPS`, the most bytes a varint has (00_scope.md R8). -/
def varintMaxGroups : Nat := 5

/-- `COBS_MAX_CODE`, the largest code byte; its block has 254 data bytes (00_scope.md R8). -/
def cobsMaxCode : Byte := 0xFF

/-- `MAX_INSTR_LEN`, the longest well-formed instruction, 1 + 7 + 5 bytes (00_scope.md R8, 30_encoding.md R72). -/
def maxInstrLen : Nat := 13

/-- `CRC_POLY`, x^8 + x^2 + x + 1 with the x^8 term implied (00_scope.md R8). -/
def crcPoly : Byte := 0x07

/-- `CRC_INIT` (00_scope.md R8, decided by 92_eei_decisions.md D23). -/
def crcInit : Byte := 0x00

/-- `CRC_REFIN` (00_scope.md R8, D23). -/
def crcRefIn : Bool := false

/-- `CRC_REFOUT` (00_scope.md R8, D23). -/
def crcRefOut : Bool := false

/-- `CRC_XOROUT` (00_scope.md R8, D23). -/
def crcXorOut : Byte := 0x00

end Config
end Sys2Proof
end

