-- ==== Sys2Proof/Syntax.lean ====
section
/-! DEFINITION. The instructions of the Macro Bytecode Format (30_encoding.md R60 to R67): one constructor per row of
spec/opcode_table.json, in the table's order. A varint operand is kept as its groups (`Varint`). -/

namespace Sys2Proof

/-- One instruction. LOOPSTART has a count and no hold time, LOOPEND has neither, a basic report has a hold time, a complex
report has its field mask, its literal bytes and a hold time (30_encoding.md R60, 90_conflicts.md C1); an invalid opcode is
a single byte (43_vm_instructions.md R180). -/
inductive Instr where
  /-- `0x00`..`0x0D`, "reserved/undefined" (30_encoding.md R75, 43_vm_instructions.md R180). -/
  | invalid00
  | invalid01
  | invalid02
  | invalid03
  | invalid04
  | invalid05
  | invalid06
  | invalid07
  | invalid08
  | invalid09
  | invalid0A
  | invalid0B
  | invalid0C
  | invalid0D
  /-- `0x0E`, format L (30_encoding.md R62, 43_vm_instructions.md R171). -/
  | loopstart (count : Varint)
  /-- `0x0F`, format E (30_encoding.md R63, 43_vm_instructions.md R172). -/
  | loopend
  /-- `0x10`, format B, the neutral report (30_encoding.md R64, 43_vm_instructions.md R174); `0x11` is "one button" (R175);
  `0x12`..`0x36` are named presets (R176). -/
  | rpt10 (hold : Varint)
  | rpt11 (hold : Varint)
  | rpt12 (hold : Varint)
  | rpt13 (hold : Varint)
  | rpt14 (hold : Varint)
  | rpt15 (hold : Varint)
  | rpt16 (hold : Varint)
  | rpt17 (hold : Varint)
  | rpt18 (hold : Varint)
  | rpt19 (hold : Varint)
  | rpt1A (hold : Varint)
  | rpt1B (hold : Varint)
  | rpt1C (hold : Varint)
  | rpt1D (hold : Varint)
  | rpt1E (hold : Varint)
  | rpt1F (hold : Varint)
  | rpt20 (hold : Varint)
  | rpt21 (hold : Varint)
  | rpt22 (hold : Varint)
  | rpt23 (hold : Varint)
  | rpt24 (hold : Varint)
  | rpt25 (hold : Varint)
  | rpt26 (hold : Varint)
  | rpt27 (hold : Varint)
  | rpt28 (hold : Varint)
  | rpt29 (hold : Varint)
  | rpt2A (hold : Varint)
  | rpt2B (hold : Varint)
  | rpt2C (hold : Varint)
  | rpt2D (hold : Varint)
  | rpt2E (hold : Varint)
  | rpt2F (hold : Varint)
  | rpt30 (hold : Varint)
  | rpt31 (hold : Varint)
  | rpt32 (hold : Varint)
  | rpt33 (hold : Varint)
  | rpt34 (hold : Varint)
  | rpt35 (hold : Varint)
  | rpt36 (hold : Varint)
  /-- `0x37`..`0x7F`, not listed, invalid (30_encoding.md R75, 90_conflicts.md C8). -/
  | invalid37
  | invalid38
  | invalid39
  | invalid3A
  | invalid3B
  | invalid3C
  | invalid3D
  | invalid3E
  | invalid3F
  | invalid40
  | invalid41
  | invalid42
  | invalid43
  | invalid44
  | invalid45
  | invalid46
  | invalid47
  | invalid48
  | invalid49
  | invalid4A
  | invalid4B
  | invalid4C
  | invalid4D
  | invalid4E
  | invalid4F
  | invalid50
  | invalid51
  | invalid52
  | invalid53
  | invalid54
  | invalid55
  | invalid56
  | invalid57
  | invalid58
  | invalid59
  | invalid5A
  | invalid5B
  | invalid5C
  | invalid5D
  | invalid5E
  | invalid5F
  | invalid60
  | invalid61
  | invalid62
  | invalid63
  | invalid64
  | invalid65
  | invalid66
  | invalid67
  | invalid68
  | invalid69
  | invalid6A
  | invalid6B
  | invalid6C
  | invalid6D
  | invalid6E
  | invalid6F
  | invalid70
  | invalid71
  | invalid72
  | invalid73
  | invalid74
  | invalid75
  | invalid76
  | invalid77
  | invalid78
  | invalid79
  | invalid7A
  | invalid7B
  | invalid7C
  | invalid7D
  | invalid7E
  | invalid7F
  /-- `0x80`..`0xFF`, format C (30_encoding.md R65, 43_vm_instructions.md R177). -/
  | cplx (mask : Mask) (lits : List Byte) (hold : Varint)
deriving DecidableEq, Repr

end Sys2Proof
end

