-- ==== Sys2Proof/Machine/State.lean ====
section
/-! DEFINITION. The state of the macro-transport core (10_state.md R20 to R36), the operations the environment invokes
(44_vm_operations.md R200) with what they return, and the state after reset (10_state.md R35). -/

namespace Sys2Proof.Machine

/-- The run state (10_state.md R21). -/
inductive RunState where
  | idle
  | executing
deriving DecidableEq, Repr, Inhabited

/-- A loop frame, "`{ remaining count, resume position }`" (10_state.md R26). -/
structure LoopFrame where
  count : U32
  resume : Nat
deriving DecidableEq, Repr, Inhabited

/-- The program buffer: the bytes something has written, as (address, byte), addresses strictly rising
(10_state.md R24, 20_memory.md R41). An address that is not listed holds no value (10_state.md R35 "unspecified"). -/
abbrev Memory := List Host.Cell

/-- The status a codec operation returns beside its data (00_scope.md R14). -/
inductive CodecStatus where
  | ok
  | overflow
  | malformed
deriving DecidableEq, Repr, Inhabited

/-- What `CobsrEnc` and `CobsrDec` return: with any status but `ok` the data is empty (00_scope.md R14). -/
structure CodecResult where
  status : CodecStatus
  data : List Byte
deriving DecidableEq, Repr, Inhabited

/-- What `VarintDec` returns (40_varint.md R93). -/
structure VarintDecoded where
  value : U32
  consumed : Nat
  complete : Bool
  overflow : Bool
deriving DecidableEq, Repr, Inhabited

/-- The inspection view (10_state.md R31, 44_vm_operations.md R214). -/
structure InspectView where
  run : RunState
  pc : Nat
  wp : Nat
  depth : Nat
  holdStart : U32
  holdTime : U32
  diag : BitVec 4
deriving DecidableEq, Repr, Inhabited

/-- One operation the environment invokes (00_scope.md R9, R10), and reset, "the one event that is not an operation"
(70_reset_and_hazards.md R300), which takes effect like one. -/
inductive Operation where
  /-- 44_vm_operations.md R202. -/
  | load (bytes : List Byte)
  /-- 44_vm_operations.md R205. -/
  | clear
  /-- 44_vm_operations.md R206. -/
  | start
  /-- 44_vm_operations.md R207. -/
  | stop
  /-- 44_vm_operations.md R208. -/
  | tick (now : U32)
  /-- 44_vm_operations.md R214. -/
  | inspect
  /-- 45_receive_path.md R241. -/
  | rxFrame (frame : List Byte)
  /-- 40_varint.md R91. -/
  | varintEnc (value : U32)
  /-- 40_varint.md R93. -/
  | varintDec (src : List Byte) (avail : Nat)
  /-- 41_cobsr.md R112. -/
  | cobsrEnc (payload : List Byte)
  /-- 41_cobsr.md R125. -/
  | cobsrDec (frame : List Byte)
  /-- 42_crc8.md R151. -/
  | crc8 (data : List Byte)
  /-- 42_crc8.md R155. -/
  | crc8Check (block : List Byte)
  /-- 42_crc8.md R157. -/
  | protect (body : List Byte)
  /-- 70_reset_and_hazards.md R300. -/
  | reset
deriving DecidableEq, Repr, Inhabited

/-- What an operation returns to the environment. -/
inductive Result where
  /-- `Load`, `Clear`, `Start`, `Stop`, `RxFrame` and reset return nothing (44_vm_operations.md R200, 45_receive_path.md R241). -/
  | nothing
  /-- `Tick` returns `none` or `some report` (44_vm_operations.md R208, 10_state.md R27). -/
  | tick (report : Option Report)
  /-- `Inspect` (44_vm_operations.md R214). -/
  | inspect (view : InspectView)
  /-- `VarintEnc`: the bytes and their number (40_varint.md R91). -/
  | varintEnc (bytes : List Byte) (n : Nat)
  /-- `VarintDec` (40_varint.md R93). -/
  | varintDec (decoded : VarintDecoded)
  /-- `CobsrEnc` and `CobsrDec` (41_cobsr.md R112, R125). -/
  | codec (outcome : CodecResult)
  /-- `Crc8` (42_crc8.md R151). -/
  | crc8 (checksum : Byte)
  /-- `Crc8Check` (42_crc8.md R155). -/
  | crc8Check (ok : Bool)
  /-- `Protect` (42_crc8.md R157). -/
  | protect (block : List Byte)
deriving DecidableEq, Repr, Inhabited

/-- Why a step stops. -/
inductive Fault where
  /-- Raised by a tick that needs the byte of the program buffer at this address, below `wp`, which nothing has written
  (10_state.md R35: contents unspecified). No run from reset raises it (20_memory.md R44, 44_vm_operations.md R231). Safe:
  the hardware would go on with some byte. -/
  | unwrittenByte (addr : Nat)
deriving DecidableEq, Repr

/-- Why a step gives an instruction no meaning. -/
inductive Refusal where
  /-- Raised by `exec`'s arm of an instruction that has no meaning yet; no arm raises it. Safe. -/
  | notModelled (mnemonic : String)
deriving DecidableEq, Repr

/-- The machine (10_state.md R20), its clock input, the operations waiting to be invoked and what the last one returned. -/
structure State where
  /-- The run state (10_state.md R21). -/
  run : RunState
  /-- The read position: the index in `buf` of the next byte to fetch (10_state.md R22). -/
  pc : Nat
  /-- The write position: the number of program bytes loaded (10_state.md R23). -/
  wp : Nat
  /-- The program buffer (10_state.md R24). -/
  buf : Memory
  /-- The clock value at the tick that emitted the current report (10_state.md R25). -/
  holdStart : U32
  /-- The number of milliseconds to hold; the timer is pending exactly when it is not 0 (10_state.md R25). -/
  holdTime : U32
  /-- The number of live loop frames (10_state.md R26). -/
  depth : Nat
  /-- The loop stack, frame 0 first, `LOOP_MAX_DEPTH` frames; the live ones are those below `depth` (10_state.md R26). -/
  lstack : List LoopFrame
  /-- The sticky diagnostic bits (10_state.md R30). -/
  diag : BitVec 4
  /-- The model's own: the clock input of the tick in progress (10_state.md R33). -/
  now : U32
  /-- The model's own: the operations the environment will invoke, the next one first (20_memory.md R50). -/
  inbox : List Operation
  /-- The model's own: what the last operation returned (00_scope.md R9). -/
  result : Result
deriving DecidableEq, Repr

/-- What a frame of the loop stack holds after reset: the spec leaves it unspecified and never reads it
(10_state.md R35; DESIGN CHOICE, log entry 6). -/
def LoopFrame.atReset : LoopFrame := ⟨0, 0⟩

/-- The state after reset (10_state.md R35): Idle, positions, hold timer, depth and `diag` zero, no byte of `buf` written. -/
def State.reset : State where
  run := .idle
  pc := 0
  wp := 0
  buf := []
  holdStart := 0
  holdTime := 0
  depth := 0
  lstack := List.replicate Config.loopMaxDepth LoopFrame.atReset
  diag := 0
  now := 0
  inbox := []
  result := .nothing

end Sys2Proof.Machine
end

