-- ==== Sys2Proof/Machine/Cobsr.lean ====
section
/-! DEFINITION. The COBS/R unit (41_cobsr.md): `CobsrEnc` and `CobsrDec` as the spec's pseudocode gives them (R112, R126),
and the two streaming forms the spec describes (R123, R135). All are pure (R139). -/

namespace Sys2Proof.Machine

/-! The encoder. -/

/-- The working registers of one encoding: the output, the index of the reserved slot, the block counter, the last payload
byte (41_cobsr.md R112, 10_state.md R32). A slot not yet filled holds 0. -/
structure EncRegs where
  out : List Byte
  slot : Nat
  cnt : Nat
  last : Byte
deriving DecidableEq, Repr

/-- `out = [?]; ci = 0; cnt = 1; last = 0` (41_cobsr.md R112). -/
def encInit : EncRegs := ⟨[0], 0, 1, 0⟩

/-- `CloseBlock()`: write the length at its reserved slot, reserve the next block's slot (41_cobsr.md R112). -/
def closeBlock (e : EncRegs) : EncRegs :=
  { e with out := e.out.set e.slot (BitVec.ofNat 8 e.cnt) ++ [0], slot := e.out.length, cnt := 1 }

/-- One payload byte: a zero closes the block (41_cobsr.md R113); any other is copied, and the 254th of a block closes it
(R114). -/
def encByte (e : EncRegs) (b : Byte) : EncRegs :=
  if b = 0 then closeBlock { e with last := b }
  else
    let copied : EncRegs := { out := e.out ++ [b], slot := e.slot, cnt := e.cnt + 1, last := b }
    if copied.cnt = Config.cobsMaxCode.toNat then closeBlock copied else copied

/-- `Finalise()`: the COBS/R reduction (41_cobsr.md R115). -/
def encFinalise (e : EncRegs) : List Byte :=
  if e.cnt ≤ e.last.toNat then (e.out.set e.slot e.last).dropLast
  else e.out.set e.slot (BitVec.ofNat 8 e.cnt)

/-- The finished frame, before the capacity test. -/
def cobsrFrame (payload : List Byte) : List Byte := encFinalise (payload.foldl encByte encInit)

/-- `CobsrEnc(payload)` into a buffer of `cap` bytes (41_cobsr.md R112, R121). -/
def cobsrEnc (cap : Nat) (payload : List Byte) : CodecResult :=
  if cap < (cobsrFrame payload).length then ⟨.overflow, []⟩ else ⟨.ok, cobsrFrame payload⟩

/-- The encoder that "holds back up to 254 data bytes" (41_cobsr.md R123): `block` holds the pending block's data. -/
def encStream (block : List Byte) (last : Byte) : List Byte → List Byte
  | [] =>
    if block.length + 1 ≤ last.toNat then (last :: block).dropLast
    else BitVec.ofNat 8 (block.length + 1) :: block
  | b :: rest =>
    if b = 0 then BitVec.ofNat 8 (block.length + 1) :: block ++ encStream [] b rest
    else if block.length + 2 = Config.cobsMaxCode.toNat then Config.cobsMaxCode :: block ++ [b] ++ encStream [] b rest
    else encStream (block ++ [b]) b rest

/-! The decoder. -/

/-- `Emit(x)`: append one byte unless the payload is full (41_cobsr.md R126, R133). -/
def emit (cap : Nat) (payload : List Byte) (x : Byte) : Except CodecStatus (List Byte) :=
  if payload.length = cap then .error .overflow else .ok (payload ++ [x])

/-- `EmitData(x)`: a zero data byte is malformed, tested before the capacity (41_cobsr.md R131, R133). -/
def emitData (cap : Nat) (payload : List Byte) (x : Byte) : Except CodecStatus (List Byte) :=
  if x = 0 then .error .malformed else emit cap payload x

/-- The data bytes of a block, in order. -/
def emitAll (cap : Nat) : List Byte → List Byte → Except CodecStatus (List Byte)
  | payload, [] => .ok payload
  | payload, x :: xs =>
    match emitData cap payload x with
    | .ok p => emitAll cap p xs
    | .error e => .error e

/-- The decoding loop on what is left of the frame (41_cobsr.md R126 to R130). Each turn takes at least the code byte, so
`fuel`, the frame's length, does not run out. -/
def decBlocks (cap : Nat) : Nat → List Byte → List Byte → Except CodecStatus (List Byte)
  | 0, _, payload => .ok payload
  | _ + 1, [], payload => .ok payload
  | fuel + 1, c :: rest, payload =>
    if c = 0 then .error .malformed
    else if rest.length < c.toNat - 1 then
      match emitAll cap payload rest with
      | .ok p => emit cap p c
      | .error e => .error e
    else
      match emitAll cap payload (rest.take (c.toNat - 1)) with
      | .error e => .error e
      | .ok p =>
        match rest.drop (c.toNat - 1) with
        | [] => .ok p
        | next :: more =>
          if c = Config.cobsMaxCode then decBlocks cap fuel (next :: more) p
          else
            match emit cap p 0 with
            | .ok p' => decBlocks cap fuel (next :: more) p'
            | .error e => .error e

/-- What a decoding answers: the payload, or the status alone (00_scope.md R14). -/
def codecResult : Except CodecStatus (List Byte) → CodecResult
  | .ok payload => ⟨.ok, payload⟩
  | .error status => ⟨status, []⟩

/-- `CobsrDec(frame)` into a buffer of `cap` bytes (41_cobsr.md R125 to R134). An empty frame is malformed (R132). -/
def cobsrDec (cap : Nat) (frame : List Byte) : CodecResult :=
  if frame = [] then ⟨.malformed, []⟩ else codecResult (decBlocks cap frame.length frame [])

/-- The registers of the byte-at-a-time decoder: data bytes still due, current code, first-block flag, payload so far
(41_cobsr.md R135). -/
structure DecRegs where
  due : Nat
  code : Byte
  first : Bool
  payload : List Byte
deriving DecidableEq, Repr

/-- One frame byte (41_cobsr.md R135 "on byte b"). -/
def decByte (cap : Nat) (d : DecRegs) (b : Byte) : Except CodecStatus DecRegs :=
  if b = 0 then .error .malformed
  else if d.due = 0 then
    if d.first = false ∧ d.code ≠ Config.cobsMaxCode then
      match emit cap d.payload 0 with
      | .ok p => .ok ⟨b.toNat - 1, b, false, p⟩
      | .error e => .error e
    else .ok ⟨b.toNat - 1, b, false, d.payload⟩
  else
    match emit cap d.payload b with
    | .ok p => .ok { d with payload := p, due := d.due - 1 }
    | .error e => .error e

/-- The bytes of a frame and its end (41_cobsr.md R135 "at end of frame"). -/
def decStream (cap : Nat) : DecRegs → List Byte → Except CodecStatus (List Byte)
  | d, [] => if d.first then .error .malformed else if 0 < d.due then emit cap d.payload d.code else .ok d.payload
  | d, b :: rest =>
    match decByte cap d b with
    | .ok d' => decStream cap d' rest
    | .error e => .error e

/-- The byte-at-a-time decoder (41_cobsr.md R135). -/
def cobsrDecBytewise (cap : Nat) (frame : List Byte) : CodecResult := codecResult (decStream cap ⟨0, 0, true, []⟩ frame)

end Sys2Proof.Machine
end

