-- ==== Sys2Proof/Machine/Crc8.lean ====
section
/-! DEFINITION. The CRC8 unit (42_crc8.md): `Crc8`, `Crc8Check`, `Protect`, all pure (R159). -/

namespace Sys2Proof.Machine

/-- One division step: when the bit about to be shifted out is 1 the generator is subtracted (42_crc8.md R151, R152). -/
def crcStep (c : Byte) : Byte := if c.getLsbD 7 then (c <<< 1) ^^^ Config.crcPoly else c <<< 1

/-- "repeat n times" (42_crc8.md R151). -/
def crcSteps : Nat → Byte → Byte
  | 0, c => c
  | n + 1, c => crcSteps n (crcStep c)

/-- A byte with its bits in the opposite order where the parameter asks for it (00_scope.md R8 `CRC_REFIN`, `CRC_REFOUT`). -/
def reflectIf (reflect : Bool) (b : Byte) : Byte := if reflect then b.reverse else b

/-- One byte of data into the register (42_crc8.md R151). -/
def crcByte (c b : Byte) : Byte := crcSteps 8 (c ^^^ reflectIf Config.crcRefIn b)

/-- `Crc8(data)` (42_crc8.md R151). -/
def crc8 (data : List Byte) : Byte := reflectIf Config.crcRefOut (data.foldl crcByte Config.crcInit) ^^^ Config.crcXorOut

/-- `Crc8Check(block)`: the last byte is the checksum of all before it; an empty block fails (42_crc8.md R155). -/
def crc8Check (block : List Byte) : Bool :=
  match block.getLast? with
  | none => false
  | some received => crc8 block.dropLast == received

/-- `Protect(body)` (42_crc8.md R157). -/
def protect (body : List Byte) : List Byte := body ++ [crc8 body]

end Sys2Proof.Machine
end

