-- ==== Sys2Proof/Machine/Bits.lean ====
section
/-! DEFINITION. The bit fields of an opcode byte and of a varint byte (00_scope.md R11, 30_encoding.md R65, R66,
40_varint.md R90). -/

namespace Sys2Proof

/-- How many of the bits 0..n-1 of the mask are set. -/
def popcountBelow (m : Mask) : Nat → Nat
  | 0 => 0
  | n + 1 => popcountBelow m n + (if m.getLsbD n then 1 else 0)

/-- `popcount(m)`, the number of 1 bits (00_scope.md R11): how many literal bytes a complex report has (30_encoding.md R65). -/
def popcount (m : Mask) : Nat := popcountBelow m 7

/-- `op[6:0]`, the field mask of a complex-report opcode (30_encoding.md R65, R66). -/
def maskOf (op : Byte) : Mask := op.setWidth 7

/-- The opcode of a complex report: class bit 7 set, bits 6..0 the mask (30_encoding.md R65). -/
def complexOpcode (m : Mask) : Byte := 0x80 ||| m.setWidth 8

/-- The continuation bit of a varint byte, bit 7 (40_varint.md R90). -/
def continues (b : Byte) : Bool := b.getLsbD 7

/-- The group a varint byte carries, bits 6..0 (40_varint.md R90). -/
def groupOf (b : Byte) : Group := b.setWidth 7

/-- The varint byte of a group that is not the last: its continuation bit is 1 (40_varint.md R90). -/
def contByte (g : Group) : Byte := 0x80 ||| g.setWidth 8

/-- The varint byte of the last group: its continuation bit is 0 (40_varint.md R90). -/
def lastByte (g : Group) : Byte := g.setWidth 8

end Sys2Proof
end

