-- ==== Sys2Proof/WellFormed.lean ====
section
/-! DEFINITION. Which terms of `Instr` stand for an instruction of the format: every varint has 1 to 5 groups
(30_encoding.md R62, R64, R65) and a complex report has one literal byte per set bit of its mask (30_encoding.md R65). -/

namespace Sys2Proof

/-- A varint of k bytes, 1 <= k <= 5 (30_encoding.md R62). -/
def Varint.wf (v : Varint) : Bool := decide (1 ≤ v.length) && decide (v.length ≤ Config.varintMaxGroups)

/-- The operand checks of one instruction. -/
def Instr.wf : Instr → Bool
  | .invalid00 => true
  | .invalid01 => true
  | .invalid02 => true
  | .invalid03 => true
  | .invalid04 => true
  | .invalid05 => true
  | .invalid06 => true
  | .invalid07 => true
  | .invalid08 => true
  | .invalid09 => true
  | .invalid0A => true
  | .invalid0B => true
  | .invalid0C => true
  | .invalid0D => true
  | .loopstart count => Varint.wf count
  | .loopend => true
  | .rpt10 hold => Varint.wf hold
  | .rpt11 hold => Varint.wf hold
  | .rpt12 hold => Varint.wf hold
  | .rpt13 hold => Varint.wf hold
  | .rpt14 hold => Varint.wf hold
  | .rpt15 hold => Varint.wf hold
  | .rpt16 hold => Varint.wf hold
  | .rpt17 hold => Varint.wf hold
  | .rpt18 hold => Varint.wf hold
  | .rpt19 hold => Varint.wf hold
  | .rpt1A hold => Varint.wf hold
  | .rpt1B hold => Varint.wf hold
  | .rpt1C hold => Varint.wf hold
  | .rpt1D hold => Varint.wf hold
  | .rpt1E hold => Varint.wf hold
  | .rpt1F hold => Varint.wf hold
  | .rpt20 hold => Varint.wf hold
  | .rpt21 hold => Varint.wf hold
  | .rpt22 hold => Varint.wf hold
  | .rpt23 hold => Varint.wf hold
  | .rpt24 hold => Varint.wf hold
  | .rpt25 hold => Varint.wf hold
  | .rpt26 hold => Varint.wf hold
  | .rpt27 hold => Varint.wf hold
  | .rpt28 hold => Varint.wf hold
  | .rpt29 hold => Varint.wf hold
  | .rpt2A hold => Varint.wf hold
  | .rpt2B hold => Varint.wf hold
  | .rpt2C hold => Varint.wf hold
  | .rpt2D hold => Varint.wf hold
  | .rpt2E hold => Varint.wf hold
  | .rpt2F hold => Varint.wf hold
  | .rpt30 hold => Varint.wf hold
  | .rpt31 hold => Varint.wf hold
  | .rpt32 hold => Varint.wf hold
  | .rpt33 hold => Varint.wf hold
  | .rpt34 hold => Varint.wf hold
  | .rpt35 hold => Varint.wf hold
  | .rpt36 hold => Varint.wf hold
  | .invalid37 => true
  | .invalid38 => true
  | .invalid39 => true
  | .invalid3A => true
  | .invalid3B => true
  | .invalid3C => true
  | .invalid3D => true
  | .invalid3E => true
  | .invalid3F => true
  | .invalid40 => true
  | .invalid41 => true
  | .invalid42 => true
  | .invalid43 => true
  | .invalid44 => true
  | .invalid45 => true
  | .invalid46 => true
  | .invalid47 => true
  | .invalid48 => true
  | .invalid49 => true
  | .invalid4A => true
  | .invalid4B => true
  | .invalid4C => true
  | .invalid4D => true
  | .invalid4E => true
  | .invalid4F => true
  | .invalid50 => true
  | .invalid51 => true
  | .invalid52 => true
  | .invalid53 => true
  | .invalid54 => true
  | .invalid55 => true
  | .invalid56 => true
  | .invalid57 => true
  | .invalid58 => true
  | .invalid59 => true
  | .invalid5A => true
  | .invalid5B => true
  | .invalid5C => true
  | .invalid5D => true
  | .invalid5E => true
  | .invalid5F => true
  | .invalid60 => true
  | .invalid61 => true
  | .invalid62 => true
  | .invalid63 => true
  | .invalid64 => true
  | .invalid65 => true
  | .invalid66 => true
  | .invalid67 => true
  | .invalid68 => true
  | .invalid69 => true
  | .invalid6A => true
  | .invalid6B => true
  | .invalid6C => true
  | .invalid6D => true
  | .invalid6E => true
  | .invalid6F => true
  | .invalid70 => true
  | .invalid71 => true
  | .invalid72 => true
  | .invalid73 => true
  | .invalid74 => true
  | .invalid75 => true
  | .invalid76 => true
  | .invalid77 => true
  | .invalid78 => true
  | .invalid79 => true
  | .invalid7A => true
  | .invalid7B => true
  | .invalid7C => true
  | .invalid7D => true
  | .invalid7E => true
  | .invalid7F => true
  | .cplx mask lits hold => decide (lits.length = popcount mask) && Varint.wf hold

end Sys2Proof
end

