-- ==== Sys2Proof/Decode.lean ====
section
/-! DEFINITION. Decoding (30_encoding.md R60 to R67, R74) and, after it, encoding. The decoder is total on any bytes and
rejects by name; decoding depends on no state of the machine (30_encoding.md R74). -/

namespace Sys2Proof

/-- Why no instruction starts at the first byte. -/
inductive DecodeError where
  /-- There is no opcode byte. -/
  | noOpcode
  /-- A complex report's literal bytes are cut short (30_encoding.md R71). -/
  | missingLiterals
  /-- The bytes end inside a varint (30_encoding.md R71, "input ends first"). -/
  | truncatedVarint
  /-- Five varint bytes, all with the continuation bit (30_encoding.md R71, R73). -/
  | fiveContinuations
  /-- An opcode no row lists; the rows list all 256 values, so this does not arise (30_encoding.md R61). -/
  | unlistedOpcode
deriving DecidableEq, Repr

/-- The varint at the front of the bytes, of at most `fuel` bytes, and what follows it. It ends at the first byte without
the continuation bit and need not be minimal (30_encoding.md R71, R73). -/
def takeGroups : Nat → List Byte → Except DecodeError (Varint × List Byte)
  | 0, _ => .error .fiveContinuations
  | _ + 1, [] => .error .truncatedVarint
  | fuel + 1, b :: rest =>
    if continues b then
      match takeGroups fuel rest with
      | .ok (gs, after) => .ok (groupOf b :: gs, after)
      | .error e => .error e
    else .ok ([groupOf b], rest)

/-- A varint operand, 1 to 5 bytes (30_encoding.md R62). -/
def takeVarint (bs : List Byte) : Except DecodeError (Varint × List Byte) := takeGroups Config.varintMaxGroups bs

/-- An instruction whose only operand is a varint (formats L and B, 30_encoding.md R62, R64). -/
def decodeWithVarint (mk : Varint → Instr) (rest : List Byte) : Except DecodeError (Instr × List Byte) :=
  match takeVarint rest with
  | .ok (v, after) => .ok (mk v, after)
  | .error e => .error e

/-- A complex report: one literal byte per set bit of the mask, then the hold time (format C, 30_encoding.md R65). -/
def decodeComplex (m : Mask) (rest : List Byte) : Except DecodeError (Instr × List Byte) :=
  if rest.length < popcount m then .error .missingLiterals
  else
    match takeVarint (rest.drop (popcount m)) with
    | .ok (v, after) => .ok (.cplx m (rest.take (popcount m)) v, after)
    | .error e => .error e

/-- The invalid opcodes and their rows (30_encoding.md R61, R75), piece 1. -/
def invalidRows1 : List (Byte × Instr) :=
  [(0x00, .invalid00), (0x01, .invalid01), (0x02, .invalid02), (0x03, .invalid03),
   (0x04, .invalid04), (0x05, .invalid05), (0x06, .invalid06), (0x07, .invalid07),
   (0x08, .invalid08), (0x09, .invalid09), (0x0A, .invalid0A), (0x0B, .invalid0B),
   (0x0C, .invalid0C), (0x0D, .invalid0D), (0x37, .invalid37), (0x38, .invalid38)]

/-- The invalid opcodes and their rows (30_encoding.md R61, R75), piece 2. -/
def invalidRows2 : List (Byte × Instr) :=
  [(0x39, .invalid39), (0x3A, .invalid3A), (0x3B, .invalid3B), (0x3C, .invalid3C),
   (0x3D, .invalid3D), (0x3E, .invalid3E), (0x3F, .invalid3F), (0x40, .invalid40),
   (0x41, .invalid41), (0x42, .invalid42), (0x43, .invalid43), (0x44, .invalid44),
   (0x45, .invalid45), (0x46, .invalid46), (0x47, .invalid47), (0x48, .invalid48)]

/-- The invalid opcodes and their rows (30_encoding.md R61, R75), piece 3. -/
def invalidRows3 : List (Byte × Instr) :=
  [(0x49, .invalid49), (0x4A, .invalid4A), (0x4B, .invalid4B), (0x4C, .invalid4C),
   (0x4D, .invalid4D), (0x4E, .invalid4E), (0x4F, .invalid4F), (0x50, .invalid50),
   (0x51, .invalid51), (0x52, .invalid52), (0x53, .invalid53), (0x54, .invalid54),
   (0x55, .invalid55), (0x56, .invalid56), (0x57, .invalid57), (0x58, .invalid58)]

/-- The invalid opcodes and their rows (30_encoding.md R61, R75), piece 4. -/
def invalidRows4 : List (Byte × Instr) :=
  [(0x59, .invalid59), (0x5A, .invalid5A), (0x5B, .invalid5B), (0x5C, .invalid5C),
   (0x5D, .invalid5D), (0x5E, .invalid5E), (0x5F, .invalid5F), (0x60, .invalid60),
   (0x61, .invalid61), (0x62, .invalid62), (0x63, .invalid63), (0x64, .invalid64),
   (0x65, .invalid65), (0x66, .invalid66), (0x67, .invalid67), (0x68, .invalid68)]

/-- The invalid opcodes and their rows (30_encoding.md R61, R75), piece 5. -/
def invalidRows5 : List (Byte × Instr) :=
  [(0x69, .invalid69), (0x6A, .invalid6A), (0x6B, .invalid6B), (0x6C, .invalid6C),
   (0x6D, .invalid6D), (0x6E, .invalid6E), (0x6F, .invalid6F), (0x70, .invalid70),
   (0x71, .invalid71), (0x72, .invalid72), (0x73, .invalid73), (0x74, .invalid74),
   (0x75, .invalid75), (0x76, .invalid76), (0x77, .invalid77), (0x78, .invalid78)]

/-- The invalid opcodes and their rows (30_encoding.md R61, R75), piece 6. -/
def invalidRows6 : List (Byte × Instr) :=
  [(0x79, .invalid79), (0x7A, .invalid7A), (0x7B, .invalid7B), (0x7C, .invalid7C),
   (0x7D, .invalid7D), (0x7E, .invalid7E), (0x7F, .invalid7F)]

/-- All invalid opcodes. -/
def invalidRows : List (Byte × Instr) := invalidRows1 ++ invalidRows2 ++ invalidRows3 ++ invalidRows4 ++ invalidRows5 ++ invalidRows6

/-- The basic-report opcodes and their rows (30_encoding.md R61, R64), piece 1. -/
def reportRows1 : List (Byte × (Varint → Instr)) :=
  [(0x10, .rpt10), (0x11, .rpt11), (0x12, .rpt12), (0x13, .rpt13),
   (0x14, .rpt14), (0x15, .rpt15), (0x16, .rpt16), (0x17, .rpt17),
   (0x18, .rpt18), (0x19, .rpt19), (0x1A, .rpt1A), (0x1B, .rpt1B),
   (0x1C, .rpt1C), (0x1D, .rpt1D), (0x1E, .rpt1E), (0x1F, .rpt1F)]

/-- The basic-report opcodes and their rows (30_encoding.md R61, R64), piece 2. -/
def reportRows2 : List (Byte × (Varint → Instr)) :=
  [(0x20, .rpt20), (0x21, .rpt21), (0x22, .rpt22), (0x23, .rpt23),
   (0x24, .rpt24), (0x25, .rpt25), (0x26, .rpt26), (0x27, .rpt27),
   (0x28, .rpt28), (0x29, .rpt29), (0x2A, .rpt2A), (0x2B, .rpt2B),
   (0x2C, .rpt2C), (0x2D, .rpt2D), (0x2E, .rpt2E), (0x2F, .rpt2F)]

/-- The basic-report opcodes and their rows (30_encoding.md R61, R64), piece 3. -/
def reportRows3 : List (Byte × (Varint → Instr)) :=
  [(0x30, .rpt30), (0x31, .rpt31), (0x32, .rpt32), (0x33, .rpt33),
   (0x34, .rpt34), (0x35, .rpt35), (0x36, .rpt36)]

/-- All basic-report opcodes. -/
def reportRows : List (Byte × (Varint → Instr)) := reportRows1 ++ reportRows2 ++ reportRows3

/-- The opcode map (30_encoding.md R61): the opcode byte selects the class, and with it the operands that follow. -/
def decodeOpcode (op : Byte) (rest : List Byte) : Except DecodeError (Instr × List Byte) :=
  if op = 0x0E then decodeWithVarint .loopstart rest
  else if op = 0x0F then .ok (.loopend, rest)
  else if op.getLsbD 7 then decodeComplex (maskOf op) rest
  else
    match reportRows.lookup op with
    | some mk => decodeWithVarint mk rest
    | none =>
      match invalidRows.lookup op with
      | some i => .ok (i, rest)
      | none => .error .unlistedOpcode

/-- The one instruction at the front of the bytes and what follows it. -/
def decode : List Byte → Except DecodeError (Instr × List Byte)
  | [] => .error .noOpcode
  | op :: rest => decodeOpcode op rest

/-! The encoder. -/

/-- The bytes of a varint operand, every group but the last with its continuation bit (40_varint.md R90). -/
def encodeVarint : Varint → List Byte
  | [] => []
  | [g] => [lastByte g]
  | g :: g' :: gs => contByte g :: encodeVarint (g' :: gs)

/-- The bytes of a well-formed instruction, opcode first (30_encoding.md R62 to R65). -/
def encode : Instr → List Byte
  | .invalid00 => [0x00]
  | .invalid01 => [0x01]
  | .invalid02 => [0x02]
  | .invalid03 => [0x03]
  | .invalid04 => [0x04]
  | .invalid05 => [0x05]
  | .invalid06 => [0x06]
  | .invalid07 => [0x07]
  | .invalid08 => [0x08]
  | .invalid09 => [0x09]
  | .invalid0A => [0x0A]
  | .invalid0B => [0x0B]
  | .invalid0C => [0x0C]
  | .invalid0D => [0x0D]
  | .loopstart count => 0x0E :: encodeVarint count
  | .loopend => [0x0F]
  | .rpt10 hold => 0x10 :: encodeVarint hold
  | .rpt11 hold => 0x11 :: encodeVarint hold
  | .rpt12 hold => 0x12 :: encodeVarint hold
  | .rpt13 hold => 0x13 :: encodeVarint hold
  | .rpt14 hold => 0x14 :: encodeVarint hold
  | .rpt15 hold => 0x15 :: encodeVarint hold
  | .rpt16 hold => 0x16 :: encodeVarint hold
  | .rpt17 hold => 0x17 :: encodeVarint hold
  | .rpt18 hold => 0x18 :: encodeVarint hold
  | .rpt19 hold => 0x19 :: encodeVarint hold
  | .rpt1A hold => 0x1A :: encodeVarint hold
  | .rpt1B hold => 0x1B :: encodeVarint hold
  | .rpt1C hold => 0x1C :: encodeVarint hold
  | .rpt1D hold => 0x1D :: encodeVarint hold
  | .rpt1E hold => 0x1E :: encodeVarint hold
  | .rpt1F hold => 0x1F :: encodeVarint hold
  | .rpt20 hold => 0x20 :: encodeVarint hold
  | .rpt21 hold => 0x21 :: encodeVarint hold
  | .rpt22 hold => 0x22 :: encodeVarint hold
  | .rpt23 hold => 0x23 :: encodeVarint hold
  | .rpt24 hold => 0x24 :: encodeVarint hold
  | .rpt25 hold => 0x25 :: encodeVarint hold
  | .rpt26 hold => 0x26 :: encodeVarint hold
  | .rpt27 hold => 0x27 :: encodeVarint hold
  | .rpt28 hold => 0x28 :: encodeVarint hold
  | .rpt29 hold => 0x29 :: encodeVarint hold
  | .rpt2A hold => 0x2A :: encodeVarint hold
  | .rpt2B hold => 0x2B :: encodeVarint hold
  | .rpt2C hold => 0x2C :: encodeVarint hold
  | .rpt2D hold => 0x2D :: encodeVarint hold
  | .rpt2E hold => 0x2E :: encodeVarint hold
  | .rpt2F hold => 0x2F :: encodeVarint hold
  | .rpt30 hold => 0x30 :: encodeVarint hold
  | .rpt31 hold => 0x31 :: encodeVarint hold
  | .rpt32 hold => 0x32 :: encodeVarint hold
  | .rpt33 hold => 0x33 :: encodeVarint hold
  | .rpt34 hold => 0x34 :: encodeVarint hold
  | .rpt35 hold => 0x35 :: encodeVarint hold
  | .rpt36 hold => 0x36 :: encodeVarint hold
  | .invalid37 => [0x37]
  | .invalid38 => [0x38]
  | .invalid39 => [0x39]
  | .invalid3A => [0x3A]
  | .invalid3B => [0x3B]
  | .invalid3C => [0x3C]
  | .invalid3D => [0x3D]
  | .invalid3E => [0x3E]
  | .invalid3F => [0x3F]
  | .invalid40 => [0x40]
  | .invalid41 => [0x41]
  | .invalid42 => [0x42]
  | .invalid43 => [0x43]
  | .invalid44 => [0x44]
  | .invalid45 => [0x45]
  | .invalid46 => [0x46]
  | .invalid47 => [0x47]
  | .invalid48 => [0x48]
  | .invalid49 => [0x49]
  | .invalid4A => [0x4A]
  | .invalid4B => [0x4B]
  | .invalid4C => [0x4C]
  | .invalid4D => [0x4D]
  | .invalid4E => [0x4E]
  | .invalid4F => [0x4F]
  | .invalid50 => [0x50]
  | .invalid51 => [0x51]
  | .invalid52 => [0x52]
  | .invalid53 => [0x53]
  | .invalid54 => [0x54]
  | .invalid55 => [0x55]
  | .invalid56 => [0x56]
  | .invalid57 => [0x57]
  | .invalid58 => [0x58]
  | .invalid59 => [0x59]
  | .invalid5A => [0x5A]
  | .invalid5B => [0x5B]
  | .invalid5C => [0x5C]
  | .invalid5D => [0x5D]
  | .invalid5E => [0x5E]
  | .invalid5F => [0x5F]
  | .invalid60 => [0x60]
  | .invalid61 => [0x61]
  | .invalid62 => [0x62]
  | .invalid63 => [0x63]
  | .invalid64 => [0x64]
  | .invalid65 => [0x65]
  | .invalid66 => [0x66]
  | .invalid67 => [0x67]
  | .invalid68 => [0x68]
  | .invalid69 => [0x69]
  | .invalid6A => [0x6A]
  | .invalid6B => [0x6B]
  | .invalid6C => [0x6C]
  | .invalid6D => [0x6D]
  | .invalid6E => [0x6E]
  | .invalid6F => [0x6F]
  | .invalid70 => [0x70]
  | .invalid71 => [0x71]
  | .invalid72 => [0x72]
  | .invalid73 => [0x73]
  | .invalid74 => [0x74]
  | .invalid75 => [0x75]
  | .invalid76 => [0x76]
  | .invalid77 => [0x77]
  | .invalid78 => [0x78]
  | .invalid79 => [0x79]
  | .invalid7A => [0x7A]
  | .invalid7B => [0x7B]
  | .invalid7C => [0x7C]
  | .invalid7D => [0x7D]
  | .invalid7E => [0x7E]
  | .invalid7F => [0x7F]
  | .cplx mask lits hold => complexOpcode mask :: (lits ++ encodeVarint hold)

/-- Whether the opcode is one of the 169 valid values (30_encoding.md R75). -/
def validOpcode (op : Byte) : Bool :=
  op = 0x0E || op = 0x0F || (decide (0x10 ≤ op.toNat) && decide (op.toNat ≤ 0x36)) || op.getLsbD 7

/-- Whether `Load` may admit the instruction: its opcode is valid (30_encoding.md R75). -/
def Instr.loadable (i : Instr) : Bool :=
  match encode i with
  | [] => false
  | op :: _ => validOpcode op

/-- `n` bytes of a number, the least significant first. -/
def bytesOf : Nat → Nat → List Byte
  | 0, _ => []
  | n + 1, w => BitVec.ofNat 8 w :: bytesOf n (w / 256)

/-- The bytes of an instruction word as spec/opcode_table.json numbers its bits: bit 0 is the least significant bit of the
first byte; every bit from `nbits` on is 0, up to the longest instruction. -/
def tableBytes (nbits w : Nat) : List Byte := bytesOf Config.maxInstrLen (w % 2 ^ nbits)

/-- The instruction the decoder reads from such a word. -/
def decodeTableWord (nbits w : Nat) : Option Instr :=
  match decode (tableBytes nbits w) with
  | .ok (i, _) => some i
  | .error _ => none

end Sys2Proof
end

