-- ==== Sys2Proof/Machine/Flags.lean ====
section
/-! DEFINITION. The sticky diagnostic bits (10_state.md R30) and the hold test (44_vm_operations.md R209): all the
conditions of this machine that persist or compare (10_state.md R29). There are no arithmetic flags. -/

namespace Sys2Proof.Machine

/-- The events that set a bit of `diag` (10_state.md R30). -/
inductive DiagEvent where
  | badOpcode
  | loopOverflow
  | loopUnderflow
  | truncated
deriving DecidableEq, Repr

/-- The bit of `diag` an event sets (10_state.md R30). -/
def diagBit : DiagEvent → Nat
  | .badOpcode => 0
  | .loopOverflow => 1
  | .loopUnderflow => 2
  | .truncated => 3

/-- `diag` with one more bit set: the bits are sticky (10_state.md R30). -/
def withDiagBit (e : DiagEvent) (d : BitVec 4) : BitVec 4 := d ||| (1 <<< diagBit e)

/-- The bit of an event, read. -/
def diagSet (e : DiagEvent) (d : BitVec 4) : Bool := d.getLsbD (diagBit e)

/-- "still holding": `((now - hold_start) mod 2^32) < hold_time`, unsigned (44_vm_operations.md R209). With
`hold_time = 0` it is false for every clock value. -/
def holding (now holdStart holdTime : U32) : Bool := decide ((now - holdStart).toNat < holdTime.toNat)

end Sys2Proof.Machine
end

