-- ==== Sys2Proof/Machine/Operands.lean ====
section
/-! DEFINITION. What the operands of an instruction stand for: the value of a varint (30_encoding.md R68), and the report
of a complex report's mask and literal bytes (30_encoding.md R65 to R67, 43_vm_instructions.md R177). -/

namespace Sys2Proof.Machine

/-- The u32 of a varint operand: group `i` at bits `7i+6 .. 7i`, taken mod 2^32 (40_varint.md R90, R95). -/
def varintValue : Varint → U32
  | [] => 0
  | g :: gs => g.setWidth 32 ||| (varintValue gs <<< 7)

/-- A report with one field replaced. -/
def setField (r : Report) (f : Field) (b : Byte) : Report :=
  match f with
  | .buttonsLow => { r with buttonsLow := b }
  | .buttonsHigh => { r with buttonsHigh := b }
  | .hat => { r with hat := b }
  | .lx => { r with lx := b }
  | .ly => { r with ly := b }
  | .rx => { r with rx := b }
  | .ry => { r with ry := b }

/-- A field of a report. -/
def getField (r : Report) : Field → Byte
  | .buttonsLow => r.buttonsLow
  | .buttonsHigh => r.buttonsHigh
  | .hat => r.hat
  | .lx => r.lx
  | .ly => r.ly
  | .rx => r.rx
  | .ry => r.ry

/-- The fields in order: where the mask's bit is set the next literal byte is consumed as that field's value, where it is
not the field keeps what `r` has (30_encoding.md R67, 43_vm_instructions.md R177). -/
def fillFields (mask : Mask) : List Nat → List Byte → Report → Report
  | [], _, r => r
  | i :: is, lits, r =>
    if mask.getLsbD i then
      match lits with
      | [] => fillFields mask is [] r
      | l :: ls => fillFields mask is ls (setField r (Config.fieldOfBit i) l)
    else fillFields mask is lits r

/-- The report of a complex report: the literal bytes over `NEUTRAL` (43_vm_instructions.md R177). -/
def complexFields (mask : Mask) (lits : List Byte) : Report :=
  fillFields mask (List.range Config.reportFields) lits Config.neutral

/-- The count LOOPSTART stores: "0 is normalized to 1" (30_encoding.md R62, 43_vm_instructions.md R171). -/
def loopCount (count : Varint) : U32 := if varintValue count = 0 then 1 else varintValue count

end Sys2Proof.Machine
end

