-- ==== Sys2Proof/Machine/Ops.lean ====
section
/-! DEFINITION. The named operations over the program buffer, the loop stack and the registers. The machine takes no
exception and has no return from one (60_exceptions.md R260); what stands in their place is shared here: `raiseDiag`, which
transfers no control (00_scope.md R13), `truncated` (43_vm_instructions.md R182) and `resetRun`, the one way back to Idle
(44_vm_operations.md R207). -/

namespace Sys2Proof.Machine

/-! The program buffer (20_memory.md R40 to R46). -/

/-- The byte at an address, or nothing where none was written. A read has no side effect (20_memory.md R46). -/
def readByte : Memory → Nat → Option Byte
  | [], _ => none
  | (k, v) :: m, a => if a = k then some v else readByte m a

/-- Write one byte, keeping the addresses strictly rising. -/
def writeByte : Memory → Nat → Byte → Memory
  | [], a, b => [(a, b)]
  | (k, v) :: m, a, b =>
    if a < k then (a, b) :: (k, v) :: m
    else if a = k then (a, b) :: m
    else (k, v) :: writeByte m a b

/-- `MemWrite`: byte `k` at `addr + k` (00_scope.md R13, 20_memory.md R43). -/
def writeBytes : Memory → Nat → List Byte → Memory
  | m, _, [] => m
  | m, a, b :: bs => writeBytes (writeByte m a b) (a + 1) bs

/-- At most `n` bytes from an address up, as far as they have been written. -/
def readUpTo (m : Memory) : Nat → Nat → List Byte
  | _, 0 => []
  | a, n + 1 =>
    match readByte m a with
    | some b => b :: readUpTo m (a + 1) n
    | none => []

/-- The canonical form: addresses strictly rising. An unlisted address holds no value, so no entry can equal one. -/
def Memory.wf : Memory → Bool
  | [] => true
  | [_] => true
  | x :: y :: m => decide (x.1 < y.1) && Memory.wf (y :: m)

/-! Registers. -/

/-- `pc <- target` (00_scope.md R13). -/
def goto (target : Nat) (s : State) : State := { s with pc := target }

/-- `return none` or `return some report`: what the tick returns (00_scope.md R13). -/
def answer (report : Option Report) (s : State) : State := { s with result := .tick report }

/-- `raise Diag(X)`: set a sticky bit and go on (00_scope.md R13, 10_state.md R30). -/
def raiseDiag (e : DiagEvent) (s : State) : State := { s with diag := withDiagBit e s.diag }

/-- Arm the hold timer against this tick's clock (43_vm_instructions.md R181). -/
def armHold (h : U32) (s : State) : State := { s with holdTime := h, holdStart := s.now }

/-- "clears the hold timer" (10_state.md R25, 44_vm_operations.md R208). -/
def clearHold (s : State) : State := { s with holdTime := 0 }

/-- Take the clock input of a tick (10_state.md R33). -/
def latchClock (t : U32) (s : State) : State := { s with now := t }

/-- The operations still waiting once one has been taken (20_memory.md R50). -/
def withInbox (rest : List Operation) (s : State) : State := { s with inbox := rest }

/-- What an operation other than `Tick` returns. -/
def withResult (r : Result) (s : State) : State := { s with result := r }

/-- `ResetRun()`, shared by `Stop` and the finishing tick (44_vm_operations.md R207, R210). -/
def resetRun (s : State) : State := { s with run := .idle, pc := 0, holdStart := 0, holdTime := 0, depth := 0 }

/-- `Truncated()`: an operand is not wholly below `wp` (43_vm_instructions.md R182). -/
def truncated (s : State) : State := answer none (goto s.wp (raiseDiag .truncated s))

/-! The loop stack (20_memory.md R48): its address is `depth`. -/

/-- The top frame, `lstack[depth - 1]`. -/
def topFrame (s : State) : LoopFrame := s.lstack.getD (s.depth - 1) LoopFrame.atReset

/-- Push: write `lstack[depth]`, then increment `depth`. -/
def pushFrame (f : LoopFrame) (s : State) : State := { s with lstack := s.lstack.set s.depth f, depth := s.depth + 1 }

/-- Pop: decrement `depth`; the frame's bits stay and are never read. -/
def popFrame (s : State) : State := { s with depth := s.depth - 1 }

/-- `lstack[depth - 1].count <- c`. -/
def setTopCount (c : U32) (s : State) : State :=
  { s with lstack := s.lstack.set (s.depth - 1) { topFrame s with count := c } }

end Sys2Proof.Machine
end

