-- ==== Sys2Proof/Machine/Complex.lean ====
section
/-! DEFINITION. The complex report (43_vm_instructions.md R177 to R179). -/

namespace Sys2Proof.Machine

/-- CPLX: build the seven fields, move past the operands, arm the hold timer, return the report
(43_vm_instructions.md R177). -/
def complexReport (mask : Mask) (lits : List Byte) (hold : Varint) (s : State) : State :=
  answer (some (complexFields mask lits))
    (armHold (varintValue hold) (goto (s.pc + 1 + lits.length + hold.length) s))

/-- CPLX (43_vm_instructions.md R177). -/
def execCplx (mask : Mask) (lits : List Byte) (hold : Varint) (s : State) : Host.Outcome State Fault Refusal :=
  .next (complexReport mask lits hold s)

end Sys2Proof.Machine
end

