-- ==== Sys2Proof/Machine/Invalid.lean ====
section
/-! DEFINITION. The invalid opcodes (43_vm_instructions.md R180): "a recoverable no-op, not a fatal error". -/

namespace Sys2Proof.Machine

/-- INVALID: consume the opcode byte, set `BAD_OPCODE`, return nothing (43_vm_instructions.md R180). -/
def invalidOpcode (s : State) : State := answer none (goto (s.pc + 1) (raiseDiag .badOpcode s))

/-- INVALID_00 (43_vm_instructions.md R180). -/
def execInvalid00 (s : State) : Host.Outcome State Fault Refusal := .next (invalidOpcode s)

/-- INVALID_01 (43_vm_instructions.md R180). -/
def execInvalid01 (s : State) : Host.Outcome State Fault Refusal := .next (invalidOpcode s)

/-- INVALID_02 (43_vm_instructions.md R180). -/
def execInvalid02 (s : State) : Host.Outcome State Fault Refusal := .next (invalidOpcode s)

/-- INVALID_03 (43_vm_instructions.md R180). -/
def execInvalid03 (s : State) : Host.Outcome State Fault Refusal := .next (invalidOpcode s)

/-- INVALID_04 (43_vm_instructions.md R180). -/
def execInvalid04 (s : State) : Host.Outcome State Fault Refusal := .next (invalidOpcode s)

/-- INVALID_05 (43_vm_instructions.md R180). -/
def execInvalid05 (s : State) : Host.Outcome State Fault Refusal := .next (invalidOpcode s)

/-- INVALID_06 (43_vm_instructions.md R180). -/
def execInvalid06 (s : State) : Host.Outcome State Fault Refusal := .next (invalidOpcode s)

/-- INVALID_07 (43_vm_instructions.md R180). -/
def execInvalid07 (s : State) : Host.Outcome State Fault Refusal := .next (invalidOpcode s)

/-- INVALID_08 (43_vm_instructions.md R180). -/
def execInvalid08 (s : State) : Host.Outcome State Fault Refusal := .next (invalidOpcode s)

/-- INVALID_09 (43_vm_instructions.md R180). -/
def execInvalid09 (s : State) : Host.Outcome State Fault Refusal := .next (invalidOpcode s)

/-- INVALID_0A (43_vm_instructions.md R180). -/
def execInvalid0A (s : State) : Host.Outcome State Fault Refusal := .next (invalidOpcode s)

/-- INVALID_0B (43_vm_instructions.md R180). -/
def execInvalid0B (s : State) : Host.Outcome State Fault Refusal := .next (invalidOpcode s)

/-- INVALID_0C (43_vm_instructions.md R180). -/
def execInvalid0C (s : State) : Host.Outcome State Fault Refusal := .next (invalidOpcode s)

/-- INVALID_0D (43_vm_instructions.md R180). -/
def execInvalid0D (s : State) : Host.Outcome State Fault Refusal := .next (invalidOpcode s)

/-- INVALID_37 (43_vm_instructions.md R180). -/
def execInvalid37 (s : State) : Host.Outcome State Fault Refusal := .next (invalidOpcode s)

/-- INVALID_38 (43_vm_instructions.md R180). -/
def execInvalid38 (s : State) : Host.Outcome State Fault Refusal := .next (invalidOpcode s)

/-- INVALID_39 (43_vm_instructions.md R180). -/
def execInvalid39 (s : State) : Host.Outcome State Fault Refusal := .next (invalidOpcode s)

/-- INVALID_3A (43_vm_instructions.md R180). -/
def execInvalid3A (s : State) : Host.Outcome State Fault Refusal := .next (invalidOpcode s)

/-- INVALID_3B (43_vm_instructions.md R180). -/
def execInvalid3B (s : State) : Host.Outcome State Fault Refusal := .next (invalidOpcode s)

/-- INVALID_3C (43_vm_instructions.md R180). -/
def execInvalid3C (s : State) : Host.Outcome State Fault Refusal := .next (invalidOpcode s)

/-- INVALID_3D (43_vm_instructions.md R180). -/
def execInvalid3D (s : State) : Host.Outcome State Fault Refusal := .next (invalidOpcode s)

/-- INVALID_3E (43_vm_instructions.md R180). -/
def execInvalid3E (s : State) : Host.Outcome State Fault Refusal := .next (invalidOpcode s)

/-- INVALID_3F (43_vm_instructions.md R180). -/
def execInvalid3F (s : State) : Host.Outcome State Fault Refusal := .next (invalidOpcode s)

/-- INVALID_40 (43_vm_instructions.md R180). -/
def execInvalid40 (s : State) : Host.Outcome State Fault Refusal := .next (invalidOpcode s)

/-- INVALID_41 (43_vm_instructions.md R180). -/
def execInvalid41 (s : State) : Host.Outcome State Fault Refusal := .next (invalidOpcode s)

/-- INVALID_42 (43_vm_instructions.md R180). -/
def execInvalid42 (s : State) : Host.Outcome State Fault Refusal := .next (invalidOpcode s)

/-- INVALID_43 (43_vm_instructions.md R180). -/
def execInvalid43 (s : State) : Host.Outcome State Fault Refusal := .next (invalidOpcode s)

/-- INVALID_44 (43_vm_instructions.md R180). -/
def execInvalid44 (s : State) : Host.Outcome State Fault Refusal := .next (invalidOpcode s)

/-- INVALID_45 (43_vm_instructions.md R180). -/
def execInvalid45 (s : State) : Host.Outcome State Fault Refusal := .next (invalidOpcode s)

/-- INVALID_46 (43_vm_instructions.md R180). -/
def execInvalid46 (s : State) : Host.Outcome State Fault Refusal := .next (invalidOpcode s)

/-- INVALID_47 (43_vm_instructions.md R180). -/
def execInvalid47 (s : State) : Host.Outcome State Fault Refusal := .next (invalidOpcode s)

/-- INVALID_48 (43_vm_instructions.md R180). -/
def execInvalid48 (s : State) : Host.Outcome State Fault Refusal := .next (invalidOpcode s)

/-- INVALID_49 (43_vm_instructions.md R180). -/
def execInvalid49 (s : State) : Host.Outcome State Fault Refusal := .next (invalidOpcode s)

/-- INVALID_4A (43_vm_instructions.md R180). -/
def execInvalid4A (s : State) : Host.Outcome State Fault Refusal := .next (invalidOpcode s)

/-- INVALID_4B (43_vm_instructions.md R180). -/
def execInvalid4B (s : State) : Host.Outcome State Fault Refusal := .next (invalidOpcode s)

/-- INVALID_4C (43_vm_instructions.md R180). -/
def execInvalid4C (s : State) : Host.Outcome State Fault Refusal := .next (invalidOpcode s)

/-- INVALID_4D (43_vm_instructions.md R180). -/
def execInvalid4D (s : State) : Host.Outcome State Fault Refusal := .next (invalidOpcode s)

/-- INVALID_4E (43_vm_instructions.md R180). -/
def execInvalid4E (s : State) : Host.Outcome State Fault Refusal := .next (invalidOpcode s)

/-- INVALID_4F (43_vm_instructions.md R180). -/
def execInvalid4F (s : State) : Host.Outcome State Fault Refusal := .next (invalidOpcode s)

/-- INVALID_50 (43_vm_instructions.md R180). -/
def execInvalid50 (s : State) : Host.Outcome State Fault Refusal := .next (invalidOpcode s)

/-- INVALID_51 (43_vm_instructions.md R180). -/
def execInvalid51 (s : State) : Host.Outcome State Fault Refusal := .next (invalidOpcode s)

/-- INVALID_52 (43_vm_instructions.md R180). -/
def execInvalid52 (s : State) : Host.Outcome State Fault Refusal := .next (invalidOpcode s)

/-- INVALID_53 (43_vm_instructions.md R180). -/
def execInvalid53 (s : State) : Host.Outcome State Fault Refusal := .next (invalidOpcode s)

/-- INVALID_54 (43_vm_instructions.md R180). -/
def execInvalid54 (s : State) : Host.Outcome State Fault Refusal := .next (invalidOpcode s)

/-- INVALID_55 (43_vm_instructions.md R180). -/
def execInvalid55 (s : State) : Host.Outcome State Fault Refusal := .next (invalidOpcode s)

/-- INVALID_56 (43_vm_instructions.md R180). -/
def execInvalid56 (s : State) : Host.Outcome State Fault Refusal := .next (invalidOpcode s)

/-- INVALID_57 (43_vm_instructions.md R180). -/
def execInvalid57 (s : State) : Host.Outcome State Fault Refusal := .next (invalidOpcode s)

/-- INVALID_58 (43_vm_instructions.md R180). -/
def execInvalid58 (s : State) : Host.Outcome State Fault Refusal := .next (invalidOpcode s)

/-- INVALID_59 (43_vm_instructions.md R180). -/
def execInvalid59 (s : State) : Host.Outcome State Fault Refusal := .next (invalidOpcode s)

/-- INVALID_5A (43_vm_instructions.md R180). -/
def execInvalid5A (s : State) : Host.Outcome State Fault Refusal := .next (invalidOpcode s)

/-- INVALID_5B (43_vm_instructions.md R180). -/
def execInvalid5B (s : State) : Host.Outcome State Fault Refusal := .next (invalidOpcode s)

/-- INVALID_5C (43_vm_instructions.md R180). -/
def execInvalid5C (s : State) : Host.Outcome State Fault Refusal := .next (invalidOpcode s)

/-- INVALID_5D (43_vm_instructions.md R180). -/
def execInvalid5D (s : State) : Host.Outcome State Fault Refusal := .next (invalidOpcode s)

/-- INVALID_5E (43_vm_instructions.md R180). -/
def execInvalid5E (s : State) : Host.Outcome State Fault Refusal := .next (invalidOpcode s)

/-- INVALID_5F (43_vm_instructions.md R180). -/
def execInvalid5F (s : State) : Host.Outcome State Fault Refusal := .next (invalidOpcode s)

/-- INVALID_60 (43_vm_instructions.md R180). -/
def execInvalid60 (s : State) : Host.Outcome State Fault Refusal := .next (invalidOpcode s)

/-- INVALID_61 (43_vm_instructions.md R180). -/
def execInvalid61 (s : State) : Host.Outcome State Fault Refusal := .next (invalidOpcode s)

/-- INVALID_62 (43_vm_instructions.md R180). -/
def execInvalid62 (s : State) : Host.Outcome State Fault Refusal := .next (invalidOpcode s)

/-- INVALID_63 (43_vm_instructions.md R180). -/
def execInvalid63 (s : State) : Host.Outcome State Fault Refusal := .next (invalidOpcode s)

/-- INVALID_64 (43_vm_instructions.md R180). -/
def execInvalid64 (s : State) : Host.Outcome State Fault Refusal := .next (invalidOpcode s)

/-- INVALID_65 (43_vm_instructions.md R180). -/
def execInvalid65 (s : State) : Host.Outcome State Fault Refusal := .next (invalidOpcode s)

/-- INVALID_66 (43_vm_instructions.md R180). -/
def execInvalid66 (s : State) : Host.Outcome State Fault Refusal := .next (invalidOpcode s)

/-- INVALID_67 (43_vm_instructions.md R180). -/
def execInvalid67 (s : State) : Host.Outcome State Fault Refusal := .next (invalidOpcode s)

/-- INVALID_68 (43_vm_instructions.md R180). -/
def execInvalid68 (s : State) : Host.Outcome State Fault Refusal := .next (invalidOpcode s)

/-- INVALID_69 (43_vm_instructions.md R180). -/
def execInvalid69 (s : State) : Host.Outcome State Fault Refusal := .next (invalidOpcode s)

/-- INVALID_6A (43_vm_instructions.md R180). -/
def execInvalid6A (s : State) : Host.Outcome State Fault Refusal := .next (invalidOpcode s)

/-- INVALID_6B (43_vm_instructions.md R180). -/
def execInvalid6B (s : State) : Host.Outcome State Fault Refusal := .next (invalidOpcode s)

/-- INVALID_6C (43_vm_instructions.md R180). -/
def execInvalid6C (s : State) : Host.Outcome State Fault Refusal := .next (invalidOpcode s)

/-- INVALID_6D (43_vm_instructions.md R180). -/
def execInvalid6D (s : State) : Host.Outcome State Fault Refusal := .next (invalidOpcode s)

/-- INVALID_6E (43_vm_instructions.md R180). -/
def execInvalid6E (s : State) : Host.Outcome State Fault Refusal := .next (invalidOpcode s)

/-- INVALID_6F (43_vm_instructions.md R180). -/
def execInvalid6F (s : State) : Host.Outcome State Fault Refusal := .next (invalidOpcode s)

/-- INVALID_70 (43_vm_instructions.md R180). -/
def execInvalid70 (s : State) : Host.Outcome State Fault Refusal := .next (invalidOpcode s)

/-- INVALID_71 (43_vm_instructions.md R180). -/
def execInvalid71 (s : State) : Host.Outcome State Fault Refusal := .next (invalidOpcode s)

/-- INVALID_72 (43_vm_instructions.md R180). -/
def execInvalid72 (s : State) : Host.Outcome State Fault Refusal := .next (invalidOpcode s)

/-- INVALID_73 (43_vm_instructions.md R180). -/
def execInvalid73 (s : State) : Host.Outcome State Fault Refusal := .next (invalidOpcode s)

/-- INVALID_74 (43_vm_instructions.md R180). -/
def execInvalid74 (s : State) : Host.Outcome State Fault Refusal := .next (invalidOpcode s)

/-- INVALID_75 (43_vm_instructions.md R180). -/
def execInvalid75 (s : State) : Host.Outcome State Fault Refusal := .next (invalidOpcode s)

/-- INVALID_76 (43_vm_instructions.md R180). -/
def execInvalid76 (s : State) : Host.Outcome State Fault Refusal := .next (invalidOpcode s)

/-- INVALID_77 (43_vm_instructions.md R180). -/
def execInvalid77 (s : State) : Host.Outcome State Fault Refusal := .next (invalidOpcode s)

/-- INVALID_78 (43_vm_instructions.md R180). -/
def execInvalid78 (s : State) : Host.Outcome State Fault Refusal := .next (invalidOpcode s)

/-- INVALID_79 (43_vm_instructions.md R180). -/
def execInvalid79 (s : State) : Host.Outcome State Fault Refusal := .next (invalidOpcode s)

/-- INVALID_7A (43_vm_instructions.md R180). -/
def execInvalid7A (s : State) : Host.Outcome State Fault Refusal := .next (invalidOpcode s)

/-- INVALID_7B (43_vm_instructions.md R180). -/
def execInvalid7B (s : State) : Host.Outcome State Fault Refusal := .next (invalidOpcode s)

/-- INVALID_7C (43_vm_instructions.md R180). -/
def execInvalid7C (s : State) : Host.Outcome State Fault Refusal := .next (invalidOpcode s)

/-- INVALID_7D (43_vm_instructions.md R180). -/
def execInvalid7D (s : State) : Host.Outcome State Fault Refusal := .next (invalidOpcode s)

/-- INVALID_7E (43_vm_instructions.md R180). -/
def execInvalid7E (s : State) : Host.Outcome State Fault Refusal := .next (invalidOpcode s)

/-- INVALID_7F (43_vm_instructions.md R180). -/
def execInvalid7F (s : State) : Host.Outcome State Fault Refusal := .next (invalidOpcode s)

end Sys2Proof.Machine
end

