-- ==== Sys2Proof/Machine/Loop.lean ====
section
/-! DEFINITION. The loop instructions (43_vm_instructions.md R171, R172). -/

namespace Sys2Proof.Machine

/-- LOOPSTART on a stack of `maxDepth` frames: push `{count, position after the operand}`; when the stack is full no frame
is pushed, `LOOP_OVERFLOW` is set and `pc` still moves past the operand (43_vm_instructions.md R171, 90_conflicts.md C3). -/
def loopStart (maxDepth : Nat) (count : Varint) (s : State) : State :=
  let next := s.pc + 1 + count.length
  let entered := if s.depth < maxDepth then pushFrame ⟨loopCount count, next⟩ s else raiseDiag .loopOverflow s
  answer none (goto next entered)

/-- LOOPEND: count the top frame down; at zero pop it and go on, otherwise resume; with no frame, skip and set
`LOOP_UNDERFLOW` (43_vm_instructions.md R172). -/
def loopEnd (s : State) : State :=
  if s.depth = 0 then answer none (goto (s.pc + 1) (raiseDiag .loopUnderflow s))
  else
    let c := (topFrame s).count - 1
    if c = 0 then answer none (goto (s.pc + 1) (popFrame s))
    else answer none (goto (topFrame s).resume (setTopCount c s))

/-- LOOPSTART (43_vm_instructions.md R171). -/
def execLoopstart (count : Varint) (s : State) : Host.Outcome State Fault Refusal :=
  .next (loopStart Config.loopMaxDepth count s)

/-- LOOPEND (43_vm_instructions.md R172). -/
def execLoopend (s : State) : Host.Outcome State Fault Refusal := .next (loopEnd s)

end Sys2Proof.Machine
end

