-- ==== Sys2Proof/Machine/Report.lean ====
section
/-! DEFINITION. The 39 basic reports (43_vm_instructions.md R173 to R176). -/

namespace Sys2Proof.Machine

/-- RPT: move past the operand, arm the hold timer, return `PRESET(op)` (43_vm_instructions.md R173). -/
def basicReport (op : Byte) (hold : Varint) (s : State) : State :=
  answer (some (Config.preset op)) (armHold (varintValue hold) (goto (s.pc + 1 + hold.length) s))

/-- RPT_10 (43_vm_instructions.md R173, R174). -/
def execRpt10 (hold : Varint) (s : State) : Host.Outcome State Fault Refusal := .next (basicReport 0x10 hold s)

/-- RPT_11 (43_vm_instructions.md R173, R175). -/
def execRpt11 (hold : Varint) (s : State) : Host.Outcome State Fault Refusal := .next (basicReport 0x11 hold s)

/-- RPT_12 (43_vm_instructions.md R173, R176). -/
def execRpt12 (hold : Varint) (s : State) : Host.Outcome State Fault Refusal := .next (basicReport 0x12 hold s)

/-- RPT_13 (43_vm_instructions.md R173, R176). -/
def execRpt13 (hold : Varint) (s : State) : Host.Outcome State Fault Refusal := .next (basicReport 0x13 hold s)

/-- RPT_14 (43_vm_instructions.md R173, R176). -/
def execRpt14 (hold : Varint) (s : State) : Host.Outcome State Fault Refusal := .next (basicReport 0x14 hold s)

/-- RPT_15 (43_vm_instructions.md R173, R176). -/
def execRpt15 (hold : Varint) (s : State) : Host.Outcome State Fault Refusal := .next (basicReport 0x15 hold s)

/-- RPT_16 (43_vm_instructions.md R173, R176). -/
def execRpt16 (hold : Varint) (s : State) : Host.Outcome State Fault Refusal := .next (basicReport 0x16 hold s)

/-- RPT_17 (43_vm_instructions.md R173, R176). -/
def execRpt17 (hold : Varint) (s : State) : Host.Outcome State Fault Refusal := .next (basicReport 0x17 hold s)

/-- RPT_18 (43_vm_instructions.md R173, R176). -/
def execRpt18 (hold : Varint) (s : State) : Host.Outcome State Fault Refusal := .next (basicReport 0x18 hold s)

/-- RPT_19 (43_vm_instructions.md R173, R176). -/
def execRpt19 (hold : Varint) (s : State) : Host.Outcome State Fault Refusal := .next (basicReport 0x19 hold s)

/-- RPT_1A (43_vm_instructions.md R173, R176). -/
def execRpt1A (hold : Varint) (s : State) : Host.Outcome State Fault Refusal := .next (basicReport 0x1A hold s)

/-- RPT_1B (43_vm_instructions.md R173, R176). -/
def execRpt1B (hold : Varint) (s : State) : Host.Outcome State Fault Refusal := .next (basicReport 0x1B hold s)

/-- RPT_1C (43_vm_instructions.md R173, R176). -/
def execRpt1C (hold : Varint) (s : State) : Host.Outcome State Fault Refusal := .next (basicReport 0x1C hold s)

/-- RPT_1D (43_vm_instructions.md R173, R176). -/
def execRpt1D (hold : Varint) (s : State) : Host.Outcome State Fault Refusal := .next (basicReport 0x1D hold s)

/-- RPT_1E (43_vm_instructions.md R173, R176). -/
def execRpt1E (hold : Varint) (s : State) : Host.Outcome State Fault Refusal := .next (basicReport 0x1E hold s)

/-- RPT_1F (43_vm_instructions.md R173, R176). -/
def execRpt1F (hold : Varint) (s : State) : Host.Outcome State Fault Refusal := .next (basicReport 0x1F hold s)

/-- RPT_20 (43_vm_instructions.md R173, R176). -/
def execRpt20 (hold : Varint) (s : State) : Host.Outcome State Fault Refusal := .next (basicReport 0x20 hold s)

/-- RPT_21 (43_vm_instructions.md R173, R176). -/
def execRpt21 (hold : Varint) (s : State) : Host.Outcome State Fault Refusal := .next (basicReport 0x21 hold s)

/-- RPT_22 (43_vm_instructions.md R173, R176). -/
def execRpt22 (hold : Varint) (s : State) : Host.Outcome State Fault Refusal := .next (basicReport 0x22 hold s)

/-- RPT_23 (43_vm_instructions.md R173, R176). -/
def execRpt23 (hold : Varint) (s : State) : Host.Outcome State Fault Refusal := .next (basicReport 0x23 hold s)

/-- RPT_24 (43_vm_instructions.md R173, R176). -/
def execRpt24 (hold : Varint) (s : State) : Host.Outcome State Fault Refusal := .next (basicReport 0x24 hold s)

/-- RPT_25 (43_vm_instructions.md R173, R176). -/
def execRpt25 (hold : Varint) (s : State) : Host.Outcome State Fault Refusal := .next (basicReport 0x25 hold s)

/-- RPT_26 (43_vm_instructions.md R173, R176). -/
def execRpt26 (hold : Varint) (s : State) : Host.Outcome State Fault Refusal := .next (basicReport 0x26 hold s)

/-- RPT_27 (43_vm_instructions.md R173, R176). -/
def execRpt27 (hold : Varint) (s : State) : Host.Outcome State Fault Refusal := .next (basicReport 0x27 hold s)

/-- RPT_28 (43_vm_instructions.md R173, R176). -/
def execRpt28 (hold : Varint) (s : State) : Host.Outcome State Fault Refusal := .next (basicReport 0x28 hold s)

/-- RPT_29 (43_vm_instructions.md R173, R176). -/
def execRpt29 (hold : Varint) (s : State) : Host.Outcome State Fault Refusal := .next (basicReport 0x29 hold s)

/-- RPT_2A (43_vm_instructions.md R173, R176). -/
def execRpt2A (hold : Varint) (s : State) : Host.Outcome State Fault Refusal := .next (basicReport 0x2A hold s)

/-- RPT_2B (43_vm_instructions.md R173, R176). -/
def execRpt2B (hold : Varint) (s : State) : Host.Outcome State Fault Refusal := .next (basicReport 0x2B hold s)

/-- RPT_2C (43_vm_instructions.md R173, R176). -/
def execRpt2C (hold : Varint) (s : State) : Host.Outcome State Fault Refusal := .next (basicReport 0x2C hold s)

/-- RPT_2D (43_vm_instructions.md R173, R176). -/
def execRpt2D (hold : Varint) (s : State) : Host.Outcome State Fault Refusal := .next (basicReport 0x2D hold s)

/-- RPT_2E (43_vm_instructions.md R173, R176). -/
def execRpt2E (hold : Varint) (s : State) : Host.Outcome State Fault Refusal := .next (basicReport 0x2E hold s)

/-- RPT_2F (43_vm_instructions.md R173, R176). -/
def execRpt2F (hold : Varint) (s : State) : Host.Outcome State Fault Refusal := .next (basicReport 0x2F hold s)

/-- RPT_30 (43_vm_instructions.md R173, R176). -/
def execRpt30 (hold : Varint) (s : State) : Host.Outcome State Fault Refusal := .next (basicReport 0x30 hold s)

/-- RPT_31 (43_vm_instructions.md R173, R176). -/
def execRpt31 (hold : Varint) (s : State) : Host.Outcome State Fault Refusal := .next (basicReport 0x31 hold s)

/-- RPT_32 (43_vm_instructions.md R173, R176). -/
def execRpt32 (hold : Varint) (s : State) : Host.Outcome State Fault Refusal := .next (basicReport 0x32 hold s)

/-- RPT_33 (43_vm_instructions.md R173, R176). -/
def execRpt33 (hold : Varint) (s : State) : Host.Outcome State Fault Refusal := .next (basicReport 0x33 hold s)

/-- RPT_34 (43_vm_instructions.md R173, R176). -/
def execRpt34 (hold : Varint) (s : State) : Host.Outcome State Fault Refusal := .next (basicReport 0x34 hold s)

/-- RPT_35 (43_vm_instructions.md R173, R176). -/
def execRpt35 (hold : Varint) (s : State) : Host.Outcome State Fault Refusal := .next (basicReport 0x35 hold s)

/-- RPT_36 (43_vm_instructions.md R173, R176). -/
def execRpt36 (hold : Varint) (s : State) : Host.Outcome State Fault Refusal := .next (basicReport 0x36 hold s)

end Sys2Proof.Machine
end

