-- ==== Sys2Proof/Machine/Dispatch.lean ====
section
/-! DEFINITION. The dispatch of one decoded instruction to its meaning (44_vm_operations.md R211), one arm per row of
spec/opcode_table.json. -/

namespace Sys2Proof.Machine

def exec (i : Instr) (s : State) : Host.Outcome State Fault Refusal :=
  match i with
  | .invalid00 => Sys2Proof.Machine.execInvalid00 s
  | .invalid01 => Sys2Proof.Machine.execInvalid01 s
  | .invalid02 => Sys2Proof.Machine.execInvalid02 s
  | .invalid03 => Sys2Proof.Machine.execInvalid03 s
  | .invalid04 => Sys2Proof.Machine.execInvalid04 s
  | .invalid05 => Sys2Proof.Machine.execInvalid05 s
  | .invalid06 => Sys2Proof.Machine.execInvalid06 s
  | .invalid07 => Sys2Proof.Machine.execInvalid07 s
  | .invalid08 => Sys2Proof.Machine.execInvalid08 s
  | .invalid09 => Sys2Proof.Machine.execInvalid09 s
  | .invalid0A => Sys2Proof.Machine.execInvalid0A s
  | .invalid0B => Sys2Proof.Machine.execInvalid0B s
  | .invalid0C => Sys2Proof.Machine.execInvalid0C s
  | .invalid0D => Sys2Proof.Machine.execInvalid0D s
  | .loopstart count => Sys2Proof.Machine.execLoopstart count s
  | .loopend => Sys2Proof.Machine.execLoopend s
  | .rpt10 hold => Sys2Proof.Machine.execRpt10 hold s
  | .rpt11 hold => Sys2Proof.Machine.execRpt11 hold s
  | .rpt12 hold => Sys2Proof.Machine.execRpt12 hold s
  | .rpt13 hold => Sys2Proof.Machine.execRpt13 hold s
  | .rpt14 hold => Sys2Proof.Machine.execRpt14 hold s
  | .rpt15 hold => Sys2Proof.Machine.execRpt15 hold s
  | .rpt16 hold => Sys2Proof.Machine.execRpt16 hold s
  | .rpt17 hold => Sys2Proof.Machine.execRpt17 hold s
  | .rpt18 hold => Sys2Proof.Machine.execRpt18 hold s
  | .rpt19 hold => Sys2Proof.Machine.execRpt19 hold s
  | .rpt1A hold => Sys2Proof.Machine.execRpt1A hold s
  | .rpt1B hold => Sys2Proof.Machine.execRpt1B hold s
  | .rpt1C hold => Sys2Proof.Machine.execRpt1C hold s
  | .rpt1D hold => Sys2Proof.Machine.execRpt1D hold s
  | .rpt1E hold => Sys2Proof.Machine.execRpt1E hold s
  | .rpt1F hold => Sys2Proof.Machine.execRpt1F hold s
  | .rpt20 hold => Sys2Proof.Machine.execRpt20 hold s
  | .rpt21 hold => Sys2Proof.Machine.execRpt21 hold s
  | .rpt22 hold => Sys2Proof.Machine.execRpt22 hold s
  | .rpt23 hold => Sys2Proof.Machine.execRpt23 hold s
  | .rpt24 hold => Sys2Proof.Machine.execRpt24 hold s
  | .rpt25 hold => Sys2Proof.Machine.execRpt25 hold s
  | .rpt26 hold => Sys2Proof.Machine.execRpt26 hold s
  | .rpt27 hold => Sys2Proof.Machine.execRpt27 hold s
  | .rpt28 hold => Sys2Proof.Machine.execRpt28 hold s
  | .rpt29 hold => Sys2Proof.Machine.execRpt29 hold s
  | .rpt2A hold => Sys2Proof.Machine.execRpt2A hold s
  | .rpt2B hold => Sys2Proof.Machine.execRpt2B hold s
  | .rpt2C hold => Sys2Proof.Machine.execRpt2C hold s
  | .rpt2D hold => Sys2Proof.Machine.execRpt2D hold s
  | .rpt2E hold => Sys2Proof.Machine.execRpt2E hold s
  | .rpt2F hold => Sys2Proof.Machine.execRpt2F hold s
  | .rpt30 hold => Sys2Proof.Machine.execRpt30 hold s
  | .rpt31 hold => Sys2Proof.Machine.execRpt31 hold s
  | .rpt32 hold => Sys2Proof.Machine.execRpt32 hold s
  | .rpt33 hold => Sys2Proof.Machine.execRpt33 hold s
  | .rpt34 hold => Sys2Proof.Machine.execRpt34 hold s
  | .rpt35 hold => Sys2Proof.Machine.execRpt35 hold s
  | .rpt36 hold => Sys2Proof.Machine.execRpt36 hold s
  | .invalid37 => Sys2Proof.Machine.execInvalid37 s
  | .invalid38 => Sys2Proof.Machine.execInvalid38 s
  | .invalid39 => Sys2Proof.Machine.execInvalid39 s
  | .invalid3A => Sys2Proof.Machine.execInvalid3A s
  | .invalid3B => Sys2Proof.Machine.execInvalid3B s
  | .invalid3C => Sys2Proof.Machine.execInvalid3C s
  | .invalid3D => Sys2Proof.Machine.execInvalid3D s
  | .invalid3E => Sys2Proof.Machine.execInvalid3E s
  | .invalid3F => Sys2Proof.Machine.execInvalid3F s
  | .invalid40 => Sys2Proof.Machine.execInvalid40 s
  | .invalid41 => Sys2Proof.Machine.execInvalid41 s
  | .invalid42 => Sys2Proof.Machine.execInvalid42 s
  | .invalid43 => Sys2Proof.Machine.execInvalid43 s
  | .invalid44 => Sys2Proof.Machine.execInvalid44 s
  | .invalid45 => Sys2Proof.Machine.execInvalid45 s
  | .invalid46 => Sys2Proof.Machine.execInvalid46 s
  | .invalid47 => Sys2Proof.Machine.execInvalid47 s
  | .invalid48 => Sys2Proof.Machine.execInvalid48 s
  | .invalid49 => Sys2Proof.Machine.execInvalid49 s
  | .invalid4A => Sys2Proof.Machine.execInvalid4A s
  | .invalid4B => Sys2Proof.Machine.execInvalid4B s
  | .invalid4C => Sys2Proof.Machine.execInvalid4C s
  | .invalid4D => Sys2Proof.Machine.execInvalid4D s
  | .invalid4E => Sys2Proof.Machine.execInvalid4E s
  | .invalid4F => Sys2Proof.Machine.execInvalid4F s
  | .invalid50 => Sys2Proof.Machine.execInvalid50 s
  | .invalid51 => Sys2Proof.Machine.execInvalid51 s
  | .invalid52 => Sys2Proof.Machine.execInvalid52 s
  | .invalid53 => Sys2Proof.Machine.execInvalid53 s
  | .invalid54 => Sys2Proof.Machine.execInvalid54 s
  | .invalid55 => Sys2Proof.Machine.execInvalid55 s
  | .invalid56 => Sys2Proof.Machine.execInvalid56 s
  | .invalid57 => Sys2Proof.Machine.execInvalid57 s
  | .invalid58 => Sys2Proof.Machine.execInvalid58 s
  | .invalid59 => Sys2Proof.Machine.execInvalid59 s
  | .invalid5A => Sys2Proof.Machine.execInvalid5A s
  | .invalid5B => Sys2Proof.Machine.execInvalid5B s
  | .invalid5C => Sys2Proof.Machine.execInvalid5C s
  | .invalid5D => Sys2Proof.Machine.execInvalid5D s
  | .invalid5E => Sys2Proof.Machine.execInvalid5E s
  | .invalid5F => Sys2Proof.Machine.execInvalid5F s
  | .invalid60 => Sys2Proof.Machine.execInvalid60 s
  | .invalid61 => Sys2Proof.Machine.execInvalid61 s
  | .invalid62 => Sys2Proof.Machine.execInvalid62 s
  | .invalid63 => Sys2Proof.Machine.execInvalid63 s
  | .invalid64 => Sys2Proof.Machine.execInvalid64 s
  | .invalid65 => Sys2Proof.Machine.execInvalid65 s
  | .invalid66 => Sys2Proof.Machine.execInvalid66 s
  | .invalid67 => Sys2Proof.Machine.execInvalid67 s
  | .invalid68 => Sys2Proof.Machine.execInvalid68 s
  | .invalid69 => Sys2Proof.Machine.execInvalid69 s
  | .invalid6A => Sys2Proof.Machine.execInvalid6A s
  | .invalid6B => Sys2Proof.Machine.execInvalid6B s
  | .invalid6C => Sys2Proof.Machine.execInvalid6C s
  | .invalid6D => Sys2Proof.Machine.execInvalid6D s
  | .invalid6E => Sys2Proof.Machine.execInvalid6E s
  | .invalid6F => Sys2Proof.Machine.execInvalid6F s
  | .invalid70 => Sys2Proof.Machine.execInvalid70 s
  | .invalid71 => Sys2Proof.Machine.execInvalid71 s
  | .invalid72 => Sys2Proof.Machine.execInvalid72 s
  | .invalid73 => Sys2Proof.Machine.execInvalid73 s
  | .invalid74 => Sys2Proof.Machine.execInvalid74 s
  | .invalid75 => Sys2Proof.Machine.execInvalid75 s
  | .invalid76 => Sys2Proof.Machine.execInvalid76 s
  | .invalid77 => Sys2Proof.Machine.execInvalid77 s
  | .invalid78 => Sys2Proof.Machine.execInvalid78 s
  | .invalid79 => Sys2Proof.Machine.execInvalid79 s
  | .invalid7A => Sys2Proof.Machine.execInvalid7A s
  | .invalid7B => Sys2Proof.Machine.execInvalid7B s
  | .invalid7C => Sys2Proof.Machine.execInvalid7C s
  | .invalid7D => Sys2Proof.Machine.execInvalid7D s
  | .invalid7E => Sys2Proof.Machine.execInvalid7E s
  | .invalid7F => Sys2Proof.Machine.execInvalid7F s
  | .cplx mask lits hold => Sys2Proof.Machine.execCplx mask lits hold s

end Sys2Proof.Machine
end

