-- ==== Sys2Proof/Machine/Size.lean ====
section
/-! DEFINITION. `VarintLen` and `InstrSize`, the opcode-driven size function `Load` checks with (30_encoding.md R71). -/

namespace Sys2Proof.Machine

/-- The length of the varint at the front of the bytes, of at most `fuel` bytes. -/
def varintLenFrom : Nat → List Byte → Option Nat
  | 0, _ => none
  | _ + 1, [] => none
  | fuel + 1, b :: rest => if continues b then (varintLenFrom fuel rest).map (· + 1) else some 1

/-- `VarintLen(s, a, n)`: the number of bytes of the varint that starts at `s[a]`, within `n` bytes (30_encoding.md R71). -/
def varintLen (s : List Byte) (a n : Nat) : Option Nat := varintLenFrom Config.varintMaxGroups ((s.take n).drop a)

/-- The length of an instruction whose varint starts at `s[a]`. -/
def sizeWithVarint (s : List Byte) (a n : Nat) : Option Nat :=
  if n < a then none else (varintLen s a n).map (a + ·)

/-- `InstrSize(s, n)` (30_encoding.md R71). -/
def instrSize (s : List Byte) (n : Nat) : Option Nat :=
  match s.take n with
  | [] => none
  | op :: _ =>
    if op = 0x0E then sizeWithVarint s 1 n
    else if op = 0x0F then some 1
    else if 0x10 ≤ op.toNat ∧ op.toNat ≤ 0x36 then sizeWithVarint s 1 n
    else if op.getLsbD 7 then sizeWithVarint s (1 + popcount (maskOf op)) n
    else none

end Sys2Proof.Machine
end

