-- ==== Sys2Proof/Machine/Operations.lean ====
section
/-! DEFINITION. The machine's operations `Load`, `Clear`, `Start`, `Stop`, `Tick`, `Inspect` (44_vm_operations.md). -/

namespace Sys2Proof.Machine

/-- `Load(bytes)` into a buffer of `cap` bytes: only while Idle, exactly one well-formed instruction, within the capacity;
otherwise nothing changes (44_vm_operations.md R202 to R204). -/
def load (cap : Nat) (bytes : List Byte) (s : State) : State :=
  if s.run = .idle ∧ instrSize bytes bytes.length = some bytes.length ∧ s.wp + bytes.length ≤ cap then
    { s with buf := writeBytes s.buf s.wp bytes, wp := s.wp + bytes.length }
  else s

/-- `Clear()` (44_vm_operations.md R205). The bytes stay (20_memory.md R54). -/
def clear (s : State) : State := if s.run = .idle then { s with wp := 0 } else s

/-- `Start()` (44_vm_operations.md R206). -/
def start (s : State) : State := if s.run = .idle then { s with run := .executing } else s

/-- `Stop()` (44_vm_operations.md R207). -/
def stop (s : State) : State := if s.run = .executing then resetRun s else s

/-- `Inspect()` (44_vm_operations.md R214). -/
def inspect (s : State) : InspectView := ⟨s.run, s.pc, s.wp, s.depth, s.holdStart, s.holdTime, s.diag⟩

/-- The bytes a fetch may use: from `pc` up, below `wp`, no more than the longest instruction, as far as they have been
written (20_memory.md R44, 30_encoding.md R72). -/
def fetchWindow (s : State) : List Byte := readUpTo s.buf s.pc (min Config.maxInstrLen (s.wp - s.pc))

/-- Fetch, decode and execute one instruction (44_vm_operations.md R211). Where the program ends inside an operand, or a
varint has five continuation bytes, the truncated-operand path is taken (43_vm_instructions.md R182); where a byte below
`wp` is needed that nothing has written, the step faults (log entry 5). -/
def fetchExecute (s : State) : Host.Outcome State Fault Refusal :=
  match decode (fetchWindow s) with
  | .ok (i, _) => exec i s
  | .error .fiveContinuations => .next (truncated s)
  | .error _ =>
    if s.pc + (fetchWindow s).length = s.wp then .next (truncated s)
    else .fault (.unwrittenByte (s.pc + (fetchWindow s).length))

/-- `Tick(now)`: the gate, the hold test, the end of the program, one instruction (44_vm_operations.md R208 to R211). -/
def tick (t : U32) (s : State) : Host.Outcome State Fault Refusal :=
  if s.run = .idle then .next (answer none (latchClock t s))
  else if holding t s.holdStart s.holdTime then .next (answer none (latchClock t s))
  else if s.wp ≤ s.pc then .next (answer none (resetRun (clearHold (latchClock t s))))
  else fetchExecute (clearHold (latchClock t s))

end Sys2Proof.Machine
end

