-- ==== Sys2Proof/Machine/Receive.lean ====
section
/-! DEFINITION. The receive path (45_receive_path.md): a frame through the decoder, the checksum stage and the command
decoder to one machine operation. -/

namespace Sys2Proof.Machine

/-- The CRC stage: with `check` the last byte must be the checksum of those before it and is removed
(45_receive_path.md R242). -/
def crcStage (check : Bool) (payload : List Byte) : Option (List Byte) :=
  if check then (if crc8Check payload then some payload.dropLast else none) else some payload

/-- The body a frame carries, or nothing where a stage discards it (45_receive_path.md R241, R244). -/
def rxBody (cap : Nat) (check : Bool) (frame : List Byte) : Option (List Byte) :=
  match cobsrDec cap frame with
  | ⟨.ok, payload⟩ => crcStage check payload
  | _ => none

/-- The machine operation of a command (45_receive_path.md R241). -/
def runCommand (bufCap : Nat) : Command → State → State
  | .appendInstruction bytes, s => load bufCap bytes s
  | .clearProgram, s => clear s
  | .start, s => start s
  | .stop, s => stop s
  | .nothing, s => s

/-- `RxFrame(frame)` with its parameters as arguments (45_receive_path.md R241): a frame that fails any stage changes nothing. -/
def rxFrame (decCap bufCap : Nat) (check : Bool) (cmdDecode : List Byte → Command) (frame : List Byte) (s : State) : State :=
  match rxBody decCap check frame with
  | some body => runCommand bufCap (cmdDecode body) s
  | none => s

end Sys2Proof.Machine
end

