-- ==== Sys2Proof/Machine/Varint.lean ====
section
/-! DEFINITION. The varint unit (40_varint.md): `VarintEnc`, `VarintDec`, both pure (R98), and `VarintAt`, the read of a
varint from the program buffer (R99). -/

namespace Sys2Proof.Machine

/-- The bytes of a value, at most `fuel` of them: a byte with the continuation bit while the value is at least 0x80
(40_varint.md R91). -/
def varintEncBytes : Nat → U32 → List Byte
  | 0, _ => []
  | fuel + 1, v => if v < 0x80 then [v.setWidth 8] else ((v.setWidth 8 &&& 0x7F) ||| 0x80) :: varintEncBytes fuel (v >>> 7)

/-- `VarintEnc(value)`: the shortest varint of the value (40_varint.md R91); five bytes are always enough (R92). -/
def varintEnc (value : U32) : List Byte := varintEncBytes Config.varintMaxGroups value

/-- The decoding loop at byte `i`: the accumulated value, the overflow flag, the bytes still available
(40_varint.md R93). -/
def varintDecFrom (avail : Nat) : Nat → U32 → Bool → List Byte → VarintDecoded
  | _, value, overflow, [] => ⟨value, avail, false, overflow⟩
  | i, value, overflow, b :: rest =>
    if i = Config.varintMaxGroups then ⟨value, avail, false, overflow⟩
    else
      let overflow' := overflow || (i = 4 && decide (b &&& 0x70 ≠ 0))
      let value' := value ||| ((groupOf b).setWidth 32 <<< (7 * i))
      if continues b then varintDecFrom avail (i + 1) value' overflow' rest
      else ⟨value', i + 1, true, overflow'⟩

/-- `VarintDec(src, avail)` (40_varint.md R93 to R96); `avail` is at most the length of `src` (R93), and a larger one is read
as that length (DESIGN CHOICE, log entry 14). -/
def varintDec (src : List Byte) (avail : Nat) : VarintDecoded :=
  varintDecFrom (src.take avail).length 0 0 false (src.take avail)

/-- `VarintAt(a)`: the varint at program-buffer address `a`, never reading at or above `wp` (40_varint.md R99). -/
def varintAt (a : Nat) (s : State) : VarintDecoded :=
  if a ≤ s.wp then varintDec (readUpTo s.buf a (s.wp - a)) (s.wp - a) else ⟨0, 0, false, false⟩

end Sys2Proof.Machine
end

