-- ==== Sys2Proof/Machine/Invoke.lean ====
section
/-! DEFINITION. One operation of the environment (00_scope.md R9, R10) with the block's own parameters, reset
(70_reset_and_hazards.md R300), and the placing of one instruction word where the next tick fetches it. -/

namespace Sys2Proof.Machine

/-- Reset: every element of the machine as after reset; the environment's clock and its waiting operations are not the
machine's and stay (10_state.md R35, 70_reset_and_hazards.md R300). -/
def applyReset (s : State) : State := { State.reset with now := s.now, inbox := s.inbox }

/-- One operation: what it does to the machine and what it returns (44_vm_operations.md R200). -/
def invoke (op : Operation) (s : State) : Host.Outcome State Fault Refusal :=
  match op with
  | .load bytes => .next (withResult .nothing (load Config.bufCap bytes s))
  | .clear => .next (withResult .nothing (clear s))
  | .start => .next (withResult .nothing (start s))
  | .stop => .next (withResult .nothing (stop s))
  | .tick t => tick t s
  | .inspect => .next (withResult (.inspect (inspect s)) s)
  | .rxFrame frame =>
    .next (withResult .nothing (rxFrame Config.decCap Config.bufCap Config.crcEnable Config.cmdDecode frame s))
  | .varintEnc value => .next (withResult (.varintEnc (varintEnc value) (varintEnc value).length) s)
  | .varintDec src avail => .next (withResult (.varintDec (varintDec src avail)) s)
  | .cobsrEnc payload => .next (withResult (.codec (cobsrEnc Config.encCap payload)) s)
  | .cobsrDec frame => .next (withResult (.codec (cobsrDec Config.decCap frame)) s)
  | .crc8 data => .next (withResult (.crc8 (crc8 data)) s)
  | .crc8Check block => .next (withResult (.crc8Check (crc8Check block)) s)
  | .protect body => .next (withResult (.protect (protect body)) s)
  | .reset => .next (applyReset s)

/-- The next waiting operation, whole; with none waiting nothing happens (00_scope.md R9, 20_memory.md R50; log entry 1). -/
def invokeNext (s : State) : Host.Outcome State Fault Refusal :=
  match s.inbox with
  | [] => .next s
  | op :: rest => invoke op (withInbox rest s)

/-- The state with an instruction word stored at `pc`, the program reaching past it, the machine Executing with no hold
pending, and a tick waiting (log entry 2). -/
def placeWord (s : State) (nbits w : Nat) : State :=
  { s with
    run := .executing
    holdTime := 0
    buf := writeBytes s.buf s.pc (tableBytes nbits w)
    wp := max s.wp (s.pc + Config.maxInstrLen)
    inbox := .tick s.now :: s.inbox }

end Sys2Proof.Machine
end

