-- ==== Sys2Proof/Machine/Step.lean ====
section
/-! DEFINITION. One step of the machine: one operation of the environment (00_scope.md R9). -/

namespace Sys2Proof.Machine

/-- One step (00_scope.md R9, 20_memory.md R50). -/
def step (s : State) : Host.Outcome State Fault Refusal := invokeNext s

/-- `s` with one instruction word where the next step fetches (log entry 2). -/
def State.withFetchWord (s : State) (nbits w : Nat) : State := placeWord s nbits w

end Sys2Proof.Machine
end

