-- ==== Sys2Proof/Safety.lean ====
section
/-! DEFINITION. What counts as a safe state and a safe run, in the terms the claims use: the invariants the spec lists
(10_state.md R34, R36, 44_vm_operations.md R231 to R235) and a run of ticks. -/

namespace Sys2Proof.Safety

open Sys2Proof.Machine

/-- The frames that are live: those below `depth` (10_state.md R26). -/
def LiveFrame (s : State) (k : Nat) (f : LoopFrame) : Prop := k < s.depth ∧ s.lstack[k]? = some f

/-- The ranges that always hold (10_state.md R34), with the size of the loop stack (10_state.md R26). -/
structure InRange (s : State) : Prop where
  pc_le_wp : s.pc ≤ s.wp
  wp_le_cap : s.wp ≤ Config.bufCap
  depth_le_max : s.depth ≤ Config.loopMaxDepth
  stack_size : s.lstack.length = Config.loopMaxDepth
  live_frames : ∀ k f, LiveFrame s k f → 1 ≤ f.count.toNat ∧ f.resume ≤ s.wp

/-- "Whenever `run == Idle`, also `pc == 0`, `depth == 0` and `hold_time == 0`" (10_state.md R36). -/
def IdleAtRest (s : State) : Prop := s.run = .idle → s.pc = 0 ∧ s.depth = 0 ∧ s.holdTime = 0

/-- The buffer is in its canonical form, holds a byte at every address below `wp`, and none at or above the capacity
(20_memory.md R41, R44). -/
structure BufferLoaded (s : State) : Prop where
  canonical : Memory.wf s.buf = true
  loaded : ∀ a, a < s.wp → ∃ b, readByte s.buf a = some b
  bounded : ∀ a b, readByte s.buf a = some b → a < Config.bufCap

/-- Every loop frame resumes after the ones below it, and the machine has not gone back before the top one's resume
position (43_vm_instructions.md R171, R172, R184: what termination, R234, rests on). -/
structure LoopsNested (s : State) : Prop where
  rising : ∀ j k f g, LiveFrame s j f → LiveFrame s k g → j < k → f.resume < g.resume
  passed : ∀ k f, LiveFrame s k f → f.resume ≤ s.pc

/-- What the machine keeps whatever operations are invoked. -/
structure Inv (s : State) : Prop where
  ranges : InRange s
  idle : IdleAtRest s
  buffer : BufferLoaded s
  nested : LoopsNested s

/-- The bytes of a program: the concatenation of its instructions, no header, no terminator (30_encoding.md R78). -/
def programBytes (is : List Instr) : List Byte := is.flatMap encode

/-- A position where an instruction of the program starts, or its end (44_vm_operations.md R231, `b_0 .. b_j`). -/
def Boundary (is : List Instr) (p : Nat) : Prop := ∃ k, k ≤ is.length ∧ p = (programBytes (is.take k)).length

/-- Program well-formedness (44_vm_operations.md R231): `buf[0..wp)` is a concatenation of well-formed instructions; `pc`
and every live `resume` are boundaries of it; `BAD_OPCODE` and `TRUNCATED` are clear. -/
def ProgramWellFormed (s : State) : Prop :=
  ∃ is : List Instr,
    (∀ i ∈ is, i.wf = true ∧ i.loadable = true) ∧
    s.wp = (programBytes is).length ∧
    (∀ a, a < s.wp → readByte s.buf a = (programBytes is)[a]?) ∧
    Boundary is s.pc ∧
    (∀ k f, LiveFrame s k f → Boundary is f.resume) ∧
    diagSet .badOpcode s.diag = false ∧ diagSet .truncated s.diag = false

/-- The step answers a next state. -/
def Goes (o : Host.Outcome State Fault Refusal) : Prop := ∃ t, o = .next t

/-- `n` ticks in a row, tick `k` at clock value `clock k` (44_vm_operations.md R212, R213). -/
def ticksFrom (clock : Nat → U32) (s : State) : Nat → Host.Outcome State Fault Refusal
  | 0 => .next s
  | n + 1 =>
    match ticksFrom clock s n with
    | .next t => tick (clock n) t
    | .fault r => .fault r
    | .refused r => .refused r

end Sys2Proof.Safety
end

