-- ==== Sys2Proof/Certificates/Slice0/Obligations.lean ====
section
/-! DEFINITION. The statements for the provers. Each docstring names the rule of spec/ it rests on. Where a rule carries the
spec's own mark "decision" or "derived" the docstring says so, and the statement is listed as derived. -/

open Sys2Proof Sys2Proof.Machine Sys2Proof.Safety

/-! ## Varint unit (40_varint.md) -/

/-- The encoder's output length by value (40_varint.md, the table the spec derives from its decision D14 that the shortest
form is emitted). -/
def Obligations.VarintEncLengthByValue : Prop :=
  ∀ v : U32,
    (varintEnc v).length =
      if v.toNat ≤ 127 then 1 else if v.toNat ≤ 16383 then 2 else if v.toNat ≤ 2097151 then 3
      else if v.toNat ≤ 268435455 then 4 else 5

/-- R97: decoding what the encoder produced gives the value back, consumes exactly the bytes produced (1 to 5), whatever
follows; and distinct byte sequences can decode to one value. -/
def Obligations.VarintDecodeOfEncode : Prop :=
  (∀ (u : U32) (rest : List Byte) (avail : Nat),
    (varintEnc u).length ≤ avail → avail ≤ (varintEnc u ++ rest).length →
      varintDec (varintEnc u ++ rest) avail = ⟨u, (varintEnc u).length, true, false⟩) ∧
  (∀ u : U32, 1 ≤ (varintEnc u).length ∧ (varintEnc u).length ≤ 5) ∧
  (∃ a b : List Byte, a ≠ b ∧ (varintDec a a.length).complete = true ∧ (varintDec b b.length).complete = true ∧
    (varintDec a a.length).value = (varintDec b b.length).value)

/-- What the decoder answers on any bytes (40_varint.md sections 1 and 3; the fifth byte's dropped bits and the answer on
incomplete input are the spec's decisions D15 and D16): where the bytes start with a varint of at most five bytes, its
groups' value, its length, and whether a dropped bit was set; otherwise an incomplete result at end of input. -/
def Obligations.VarintDecOnAnyBytes : Prop :=
  ∀ bs : List Byte,
    (∀ (v : Varint) (rest : List Byte), takeVarint bs = .ok (v, rest) →
      varintDec bs bs.length =
        ⟨varintValue v, v.length, true, (v[4]?).any (fun g => decide (16 ≤ g.toNat))⟩) ∧
    (∀ e : DecodeError, takeVarint bs = .error e →
      (varintDec bs bs.length).complete = false ∧ (varintDec bs bs.length).consumed = bs.length)

/-- The value of a varint operand is the base-128 number of its groups, the least significant first, taken mod 2^32
(40_varint.md section 1; mod 2^32 is the spec's decision D15). -/
def Obligations.VarintValueIsBase128 : Prop :=
  ∀ v : Varint, (varintValue v).toNat = (v.foldr (fun g acc => g.toNat + 128 * acc) 0) % 2 ^ 32

/-! ## COBS/R unit (41_cobsr.md) -/

/-- R136: the round trip, for every payload and every capacity that holds it. -/
def Obligations.CobsrDecodeOfEncode : Prop :=
  ∀ (encCap decCap : Nat) (x f : List Byte),
    cobsrEnc encCap x = ⟨.ok, f⟩ → x.length ≤ decCap → cobsrDec decCap f = ⟨.ok, x⟩

/-- No frame the encoder delivers holds a zero byte, and none is empty (41_cobsr.md section 2, derived there). -/
def Obligations.CobsrFrameHasNoZero : Prop :=
  ∀ (cap : Nat) (x f : List Byte), cobsrEnc cap x = ⟨.ok, f⟩ → f ≠ [] ∧ ∀ b ∈ f, b ≠ 0

/-- The length bounds of a frame (41_cobsr.md section 2, derived there; the source's testable bound). -/
def Obligations.CobsrFrameLengthBounds : Prop :=
  (∀ x : List Byte, x ≠ [] →
    x.length ≤ (cobsrFrame x).length ∧ (cobsrFrame x).length ≤ x.length + x.length / 254 + 1) ∧
  (cobsrFrame []).length = 1

/-- The encoder fails closed (41_cobsr.md section 2, the spec's decision D21): it delivers the frame exactly when the
frame fits, nothing otherwise, and a buffer of `n + n/254 + 1` bytes always fits. -/
def Obligations.CobsrEncFailsClosed : Prop :=
  (∀ (cap : Nat) (x : List Byte), (cobsrFrame x).length ≤ cap → cobsrEnc cap x = ⟨.ok, cobsrFrame x⟩) ∧
  (∀ (cap : Nat) (x : List Byte), cap < (cobsrFrame x).length → cobsrEnc cap x = ⟨.overflow, []⟩) ∧
  (∀ (cap : Nat) (x : List Byte), x.length + x.length / 254 + 1 ≤ cap → (cobsrEnc cap x).status = .ok)

/-- The encoder that patches its reserved slot and the encoder that holds a block back give the same frame
(41_cobsr.md section 2, "None of this is observable: only the finished frame is"; `encStream` is the model's form of the
block-holding encoder, log entry 21). -/
def Obligations.CobsrStreamingEncoderAgrees : Prop :=
  ∀ x : List Byte, cobsrFrame x = encStream [] 0 x

/-- A zero closes the block of the non-zero bytes before it, fewer than 254 of them, and the rest is encoded afresh
(41_cobsr.md section 2, the rule on closing a block on a zero). -/
def Obligations.CobsrZeroClosesBlock : Prop :=
  ∀ a b : List Byte, (∀ x ∈ a, x ≠ 0) → a.length < 254 →
    cobsrFrame (a ++ 0 :: b) = BitVec.ofNat 8 (a.length + 1) :: a ++ cobsrFrame b

/-- 254 non-zero bytes in a row close the block with code 0xFF and no implied zero; what follows is encoded afresh, and
where nothing follows the empty pending block disappears (41_cobsr.md section 2; that the close is unconditional is the
spec's decision D18). -/
def Obligations.CobsrFullBlock : Prop :=
  ∀ a b : List Byte, (∀ x ∈ a, x ≠ 0) → a.length = 254 →
    cobsrFrame (a ++ b) = 0xFF :: a ++ (if b = [] then [] else cobsrFrame b)

/-- A final block of 1 to 253 non-zero bytes: when its last byte is at least the code value it becomes the code byte and is
dropped from the end; otherwise the code byte is the block's length (41_cobsr.md section 2, the COBS/R reduction). -/
def Obligations.CobsrFinalBlock : Prop :=
  ∀ (a : List Byte) (z : Byte), (∀ x ∈ a, x ≠ 0) → z ≠ 0 → a.length + 1 < 254 →
    cobsrFrame (a ++ [z]) =
      if a.length + 2 ≤ z.toNat then z :: a else BitVec.ofNat 8 (a.length + 2) :: (a ++ [z])

/-- R116: "empty payload encodes to a single byte with value 1". -/
def Obligations.CobsrEmptyPayload : Prop := cobsrFrame [] = [1] ∧ ∀ cap, 1 ≤ cap → cobsrEnc cap [] = ⟨.ok, [1]⟩

/-- A frame that holds a zero byte, or none at all, is malformed and delivers nothing (41_cobsr.md section 3, the spec's
decision D20), where the payload buffer is at least as long as the frame; with any buffer such a frame delivers nothing. -/
def Obligations.CobsrDecRejectsZeroAndEmpty : Prop :=
  (∀ cap, cobsrDec cap [] = ⟨.malformed, []⟩) ∧
  (∀ (cap : Nat) (f : List Byte), 0 ∈ f → f.length ≤ cap → cobsrDec cap f = ⟨.malformed, []⟩) ∧
  (∀ (cap : Nat) (f : List Byte), 0 ∈ f → (cobsrDec cap f).status ≠ .ok ∧ (cobsrDec cap f).data = [])

/-- Every non-empty frame without a zero decodes, given a payload buffer as long as the frame; no payload is longer than its
frame or than its buffer; and the decoder is not injective (41_cobsr.md section 3, derived there). -/
def Obligations.CobsrDecAcceptsNonzeroFrames : Prop :=
  (∀ (cap : Nat) (f : List Byte), f ≠ [] → (∀ b ∈ f, b ≠ 0) → f.length ≤ cap → (cobsrDec cap f).status = .ok) ∧
  (∀ (cap : Nat) (f : List Byte), (cobsrDec cap f).data.length ≤ f.length ∧ (cobsrDec cap f).data.length ≤ cap) ∧
  (∃ f g : List Byte, f ≠ g ∧ (cobsrDec 3 f).status = .ok ∧ cobsrDec 3 f = cobsrDec 3 g)

/-- The byte-at-a-time decoder gives the decoder's payload on every frame, and its status too wherever the payload buffer is
as long as the frame (41_cobsr.md section 3, derived there; that the two may name different errors where both a zero code
byte and a full buffer are met is log entry 20). -/
def Obligations.CobsrByteAtATimeDecoderAgrees : Prop :=
  ∀ (cap : Nat) (f : List Byte),
    (cobsrDecBytewise cap f).data = (cobsrDec cap f).data ∧
    ((cobsrDecBytewise cap f).status = .ok ↔ (cobsrDec cap f).status = .ok) ∧
    (f.length ≤ cap → cobsrDecBytewise cap f = cobsrDec cap f)

/-! ## CRC8 unit (42_crc8.md) -/

/-- A protected body passes the check, the empty one too; and the checksum is the one of the polynomial `0x07`, by the spec's
two example values (42_crc8.md, the first derived there; the CRC parameters are the spec's decision D23, log entry 12). -/
def Obligations.CrcProtectedBodyPasses : Prop :=
  (∀ body : List Byte, crc8Check (protect body) = true) ∧
  crc8 [0x01] = 0x07 ∧ crc8 [0x31, 0x32, 0x33, 0x34, 0x35, 0x36, 0x37, 0x38, 0x39] = 0xF4

/-- The residue form of the check (42_crc8.md, derived there from the decided CRC parameters D23). -/
def Obligations.CrcResidueForm : Prop :=
  ∀ block : List Byte, block ≠ [] → (crc8Check block = true ↔ crc8 block = 0)

/-- A change of one bit changes the checksum, at every length (42_crc8.md, a property the spec marks as general knowledge of
a CRC with its decided parameters D23). -/
def Obligations.CrcDetectsOneFlippedBit : Prop :=
  ∀ (before after : List Byte) (b : Byte) (k : Nat), k < 8 →
    crc8 (before ++ (b ^^^ (1 <<< k)) :: after) ≠ crc8 (before ++ b :: after)

/-! ## Decoding and encoding (30_encoding.md) -/

/-- Decoding what the encoder wrote gives the instruction back, with every operand at every value, and leaves what follows. -/
def Obligations.DecodeOfEncode : Prop :=
  ∀ (i : Instr) (rest : List Byte), i.wf = true → decode (encode i ++ rest) = .ok (i, rest)

/-- Where the decoder reads an instruction it is well formed, and its bytes are exactly those read. -/
def Obligations.EncodeOfDecode : Prop :=
  ∀ (bs rest : List Byte) (i : Instr), decode bs = .ok (i, rest) → i.wf = true ∧ encode i ++ rest = bs

/-- The opcode map is total: no opcode is unlisted, an invalid one is always a one-byte instruction that `Load` may not
admit, and a valid one never is (30_encoding.md sections 1 and 4). -/
def Obligations.OpcodeMapIsTotal : Prop :=
  ∀ (op : Byte) (rest : List Byte),
    decode (op :: rest) ≠ .error .unlistedOpcode ∧
    (validOpcode op = false → ∃ i, decode (op :: rest) = .ok (i, rest) ∧ encode i = [op] ∧ i.loadable = false) ∧
    (validOpcode op = true → ∀ i after, decode (op :: rest) = .ok (i, after) → i.loadable = true)

/-- A few words written out from the encodings (30_encoding.md section 1) decode to the instructions they stand for. -/
def Obligations.SampleWordsDecode : Prop :=
  decode [0x0E, 0x03] = .ok (.loopstart [3], []) ∧
  decode [0x0F] = .ok (.loopend, []) ∧
  decode [0x10, 0x00] = .ok (.rpt10 [0], []) ∧
  decode [0x36, 0xAC, 0x02] = .ok (.rpt36 [0x2C, 0x02], []) ∧
  decode [0x89, 0x04, 0x00, 0x64] = .ok (.cplx 0x09 [0x04, 0x00] [0x64], []) ∧
  decode [0x05] = .ok (.invalid05, []) ∧
  decode [0x7F] = .ok (.invalid7F, [])

/-- `InstrSize` answers exactly the length of the one instruction the decoder reads, where its opcode is valid
(30_encoding.md section 3). -/
def Obligations.InstrSizeIsDecodedLength : Prop :=
  ∀ (bs : List Byte) (n : Nat),
    instrSize bs bs.length = some n ↔
      ∃ i rest, decode bs = .ok (i, rest) ∧ i.loadable = true ∧ n = (encode i).length

/-- Lengths: 1 to 13 bytes; among the instructions `Load` may admit only LOOPEND has 1; 13 occurs (30_encoding.md section 3,
derived there). -/
def Obligations.InstructionLengths : Prop :=
  (∀ i : Instr, i.wf = true → 1 ≤ (encode i).length ∧ (encode i).length ≤ 13) ∧
  (∀ i : Instr, i.wf = true → i.loadable = true → ((encode i).length = 1 ↔ i = .loopend)) ∧
  (∃ i : Instr, i.wf = true ∧ (encode i).length = 13)

/-! ## Instructions (43_vm_instructions.md) -/

/-- LOOPSTART below the maximum depth: the frame `{count or 1 if 0, position after the operand}` is pushed, `pc` moves past
the operand, no report; nothing else changes (43_vm_instructions.md section 2). -/
def Obligations.LoopstartPushesFrame : Prop :=
  ∀ (count : Varint) (s : State), s.lstack.length = Config.loopMaxDepth → s.depth < Config.loopMaxDepth →
    ∃ t, exec (.loopstart count) s = .next t ∧
      t = { s with
            lstack := t.lstack, depth := s.depth + 1, pc := s.pc + 1 + count.length, result := .tick none } ∧
      t.lstack[s.depth]? =
        some ⟨if varintValue count = 0 then 1 else varintValue count, s.pc + 1 + count.length⟩ ∧
      (∀ k, k ≠ s.depth → t.lstack[k]? = s.lstack[k]?) ∧
      ∀ a, readByte t.buf a = readByte s.buf a

/-- LOOPSTART on a full stack: no frame is pushed, `pc` still moves past the operand, `LOOP_OVERFLOW` is set
(43_vm_instructions.md section 2; the spec's decisions D9 and D11). -/
def Obligations.LoopstartOnFullStackIsSkipped : Prop :=
  ∀ (count : Varint) (s : State), Config.loopMaxDepth ≤ s.depth →
    ∃ t, exec (.loopstart count) s = .next t ∧
      t = { s with diag := s.diag ||| 0b0010#4, pc := s.pc + 1 + count.length, result := .tick none } ∧
      ∀ a, readByte t.buf a = readByte s.buf a

/-- LOOPEND with a live frame: its count goes down by one; at zero the frame is popped and `pc` moves past the opcode,
otherwise `pc` is the frame's resume position and only that frame's count has changed (43_vm_instructions.md section 2). -/
def Obligations.LoopendCountsDown : Prop :=
  ∀ (s : State) (f : LoopFrame), 0 < s.depth → LiveFrame s (s.depth - 1) f → 1 ≤ f.count.toNat →
    (f.count.toNat = 1 →
      ∃ t, exec .loopend s = .next t ∧
        t = { s with depth := s.depth - 1, pc := s.pc + 1, result := .tick none } ∧
        ∀ a, readByte t.buf a = readByte s.buf a) ∧
    (1 < f.count.toNat →
      ∃ (t : State) (g : LoopFrame), exec .loopend s = .next t ∧
        t = { s with lstack := t.lstack, pc := f.resume, result := .tick none } ∧
        t.lstack[s.depth - 1]? = some g ∧ g.count.toNat = f.count.toNat - 1 ∧ g.resume = f.resume ∧
        (∀ k, k ≠ s.depth - 1 → t.lstack[k]? = s.lstack[k]?) ∧
        ∀ a, readByte t.buf a = readByte s.buf a)

/-- LOOPEND with no frame: the opcode is consumed, `LOOP_UNDERFLOW` is set, nothing else changes (43_vm_instructions.md
section 2; the spec's decision D10). -/
def Obligations.LoopendOnEmptyStackIsSkipped : Prop :=
  ∀ s : State, s.depth = 0 →
    ∃ t, exec .loopend s = .next t ∧
      t = { s with diag := s.diag ||| 0b0100#4, pc := s.pc + 1, result := .tick none } ∧
      ∀ a, readByte t.buf a = readByte s.buf a

/-- Each of the 39 basic reports, RPT_10 to RPT_36 (`reportRows` lists them with their opcodes): the report is
`PRESET(op)`, for RPT_10 the neutral report, `pc` moves past the hold time, the hold timer is armed against this tick's
clock; nothing else changes (43_vm_instructions.md sections 1 and 3; that a preset is a whole report is the spec's decision D28). -/
def Obligations.BasicReportsEmitPreset : Prop :=
  reportRows.map Prod.fst = (List.range 39).map (fun k => BitVec.ofNat 8 (0x10 + k)) ∧
  Config.preset 0x10 = ⟨0x00, 0x00, 0x00, 0x80, 0x80, 0x80, 0x80⟩ ∧
  ∀ row ∈ reportRows, ∀ (hold : Varint) (s : State),
    encode (row.2 hold) = row.1 :: encodeVarint hold ∧
    ∃ t, exec (row.2 hold) s = .next t ∧
      t = { s with
            pc := s.pc + 1 + hold.length, holdTime := varintValue hold, holdStart := s.now,
            result := .tick (some (Config.preset row.1)) } ∧
      ∀ a, readByte t.buf a = readByte s.buf a

/-- CPLX: bit 0 of the opcode selects `buttons_low`, up to bit 6 for `RY`; a selected field is the literal byte of its bit, the
j-th literal for the j-th set bit, any other has its neutral default; `pc` moves past the operands, the hold timer is armed;
nothing else changes (43_vm_instructions.md section 4; the assignment of bits to fields is the spec's decision D5). -/
def Obligations.ComplexReportBuildsFields : Prop :=
  ∀ (mask : Mask) (lits : List Byte) (hold : Varint) (s : State), lits.length = popcount mask →
    encode (.cplx mask lits hold) = (0x80 ||| mask.setWidth 8) :: (lits ++ encodeVarint hold) ∧
    ∃ (t : State) (r : Report), exec (.cplx mask lits hold) s = .next t ∧
      t = { s with
            pc := s.pc + 1 + popcount mask + hold.length, holdTime := varintValue hold, holdStart := s.now,
            result := .tick (some r) } ∧
      (∀ row ∈ [(0, r.buttonsLow, 0x00#8), (1, r.buttonsHigh, 0x00), (2, r.hat, 0x00), (3, r.lx, 0x80),
                (4, r.ly, 0x80), (5, r.rx, 0x80), (6, r.ry, 0x80)],
        (mask.getLsbD row.1 = true → lits[popcountBelow mask row.1]? = some row.2.1) ∧
        (mask.getLsbD row.1 = false → row.2.1 = row.2.2)) ∧
      ∀ a, readByte t.buf a = readByte s.buf a

/-- R178: CPLX with an empty mask consumes no literal bytes besides the hold-time varint, whatever follows, and emits the
all-neutral report; `80 00` moves `pc` by 2 with hold 0, and `10 00` emits the same report. -/
def Obligations.EmptyMaskIsNeutral : Prop :=
  (∀ bs v rest, takeVarint bs = .ok (v, rest) → decode (0x80 :: bs) = .ok (.cplx 0 [] v, rest)) ∧
  (∀ (hold : Varint) (s : State), ∃ t, exec (.cplx 0 [] hold) s = .next t ∧ t.result = .tick (some Config.neutral)) ∧
  decode [0x80, 0x00] = .ok (.cplx 0 [] [0], []) ∧ decode [0x10, 0x00] = .ok (.rpt10 [0], []) ∧
  (∀ s : State, ∃ t u, exec (.cplx 0 [] [0]) s = .next t ∧ t.pc = s.pc + 2 ∧ t.holdTime = 0 ∧
    exec (.rpt10 [0]) s = .next u ∧ u.result = t.result)

/-- Each of the 87 invalid opcodes (`invalidRows` lists them with their bytes): the byte is consumed, `BAD_OPCODE` is set, no
report; nothing else changes (43_vm_instructions.md section 5; setting the bit is the spec's decision D12). -/
def Obligations.InvalidOpcodesAreSkipped : Prop :=
  invalidRows.length = 87 ∧
  ∀ row ∈ invalidRows, ∀ s : State,
    encode row.2 = [row.1] ∧
    ∃ t, exec row.2 s = .next t ∧
      t = { s with diag := s.diag ||| 0b0001#4, pc := s.pc + 1, result := .tick none } ∧
      ∀ a, readByte t.buf a = readByte s.buf a

/-- No instruction writes `buf`, `wp` or `run`, nor takes a waiting operation or changes the clock input; every instruction
answers a next state that is a tick's (43_vm_instructions.md section 1). -/
def Obligations.InstructionsNeverWriteBufWpRun : Prop :=
  ∀ (i : Instr) (s : State), ∃ t r, exec i s = .next t ∧ t.result = .tick r ∧
    t.wp = s.wp ∧ t.run = s.run ∧ t.inbox = s.inbox ∧ t.now = s.now ∧
    t.buf = s.buf ∧ ∀ a, readByte t.buf a = readByte s.buf a

/-! ## Ticks (44_vm_operations.md section 4) -/

/-- A step runs the decoded instruction: when a tick is next, the machine is Executing, its hold has ended, `pc` is below
`wp` and the bytes there decode to `i`, the step is `exec i`, with the operation taken, the clock latched and the hold timer
cleared before it, and nothing after it. -/
def Obligations.StepRunsDecodedInstruction : Prop :=
  ∀ (s : State) (now : U32) (ops : List Operation) (i : Instr) (after : List Byte),
    s.inbox = .tick now :: ops → s.run = .executing → ¬ (now - s.holdStart).toNat < s.holdTime.toNat → s.pc < s.wp →
    decode (fetchWindow s) = .ok (i, after) →
      step s = exec i { s with inbox := ops, now := now, holdTime := 0 }

/-- Where the bytes below `wp` hold an instruction at `pc`, the fetch decodes it. -/
def Obligations.FetchSeesTheInstructionAtPc : Prop :=
  ∀ (s : State) (i : Instr), i.wf = true → s.pc + (encode i).length ≤ s.wp →
    (∀ k, k < (encode i).length → readByte s.buf (s.pc + k) = (encode i)[k]?) →
      ∃ after, decode (fetchWindow s) = .ok (i, after)

/-- The operand the fetch hands to an instruction is what `VarintAt` reads: the count of LOOPSTART and the hold time of each
basic report at `pc + 1`, the hold time of CPLX at `pc + 1 + popcount(mask)`, after the literal bytes. Where that `VarintAt` is
incomplete, and every byte from `pc` up to `wp` is written, the tick takes the truncated-operand path (40_varint.md section 4,
derived there; 43_vm_instructions.md sections 1, 3 and 4, the spec's decision D13). -/
def Obligations.FetchedCountIsVarintAt : Prop :=
  ∀ s : State, s.pc < s.wp →
    (∀ v k overflow, readByte s.buf s.pc = some 0x0E → varintAt (s.pc + 1) s = ⟨v, k, true, overflow⟩ →
      ∃ count after, decode (fetchWindow s) = .ok (.loopstart count, after) ∧
        varintValue count = v ∧ count.length = k) ∧
    (∀ row ∈ reportRows, ∀ v k overflow,
      readByte s.buf s.pc = some row.1 → varintAt (s.pc + 1) s = ⟨v, k, true, overflow⟩ →
        ∃ hold after, decode (fetchWindow s) = .ok (row.2 hold, after) ∧ varintValue hold = v ∧ hold.length = k) ∧
    (∀ mask lits v k overflow, readByte s.buf s.pc = some (complexOpcode mask) → lits.length = popcount mask →
      (∀ j, j < popcount mask → readByte s.buf (s.pc + 1 + j) = lits[j]?) →
      varintAt (s.pc + 1 + popcount mask) s = ⟨v, k, true, overflow⟩ →
        ∃ hold after, decode (fetchWindow s) = .ok (.cplx mask lits hold, after) ∧
          varintValue hold = v ∧ hold.length = k) ∧
    (∀ op a now ops, readByte s.buf s.pc = some op →
      ((op = 0x0E ∨ 0x10 ≤ op.toNat ∧ op.toNat ≤ 0x36) ∧ a = s.pc + 1 ∨
        ∃ mask, op = complexOpcode mask ∧ a = s.pc + 1 + popcount mask) →
      (∀ b, s.pc ≤ b → b < s.wp → ∃ x, readByte s.buf b = some x) → (varintAt a s).complete = false →
      s.inbox = .tick now :: ops → s.run = .executing → ¬ (now - s.holdStart).toNat < s.holdTime.toNat →
        step s = .next { s with
          inbox := ops, now := now, holdTime := 0, pc := s.wp, diag := s.diag ||| 0b1000#4, result := .tick none })

/-- A tick that executes no instruction: while Idle nothing of the machine changes; while the hold has not ended nothing
changes either; at the end of the program the run is reset, and program and diagnostics stay. All return `none`
(44_vm_operations.md section 4; clock arithmetic and the reset at the end are the spec's decisions D6, D7, D8). -/
def Obligations.TickWithoutAnInstruction : Prop :=
  ∀ (s : State) (now : U32) (ops : List Operation), s.inbox = .tick now :: ops →
    (s.run = .idle → step s = .next { s with inbox := ops, now := now, result := .tick none }) ∧
    (s.run = .executing → (now - s.holdStart).toNat < s.holdTime.toNat →
      step s = .next { s with inbox := ops, now := now, result := .tick none }) ∧
    (s.run = .executing → ¬ (now - s.holdStart).toNat < s.holdTime.toNat → s.wp ≤ s.pc →
      step s = .next { s with
        inbox := ops, now := now, result := .tick none,
        run := .idle, pc := 0, holdStart := 0, holdTime := 0, depth := 0 })

/-- A hold of `h` milliseconds armed at clock value `t0` is in force exactly while fewer than `h` milliseconds have passed,
across a wrap of the clock too (44_vm_operations.md section 4, the spec's decision D6). -/
def Obligations.HoldLastsItsMilliseconds : Prop :=
  ∀ (t0 h : U32) (elapsed : Nat), elapsed < 2 ^ 32 →
    (holding (t0 + BitVec.ofNat 32 elapsed) t0 h = true ↔ elapsed < h.toNat)

/-- The truncated-operand path: the bytes from `pc` to `wp` are all written and hold no whole instruction; `pc` goes to `wp`,
`TRUNCATED` is set, no report, no frame, no hold (43_vm_instructions.md section 1, the spec's decision D13). -/
def Obligations.TruncatedOperandEndsTheProgram : Prop :=
  ∀ (s : State) (now : U32) (ops : List Operation) (e : DecodeError),
    s.inbox = .tick now :: ops → s.run = .executing → ¬ (now - s.holdStart).toNat < s.holdTime.toNat → s.pc < s.wp →
    (∀ a, s.pc ≤ a → a < s.wp → ∃ b, readByte s.buf a = some b) → decode (fetchWindow s) = .error e →
      step s = .next { s with
        inbox := ops, now := now, holdTime := 0, pc := s.wp, diag := s.diag ||| 0b1000#4, result := .tick none }

/-- Only a basic or a complex report makes a tick return a report, and only a tick that executes one does
(43_vm_instructions.md section 6, derived there). -/
def Obligations.ReportsComeOnlyFromReportInstructions : Prop :=
  ∀ (s t : State) (now : U32) (r : Report), tick now s = .next t → t.result = .tick (some r) →
    s.run = .executing ∧ holding now s.holdStart s.holdTime = false ∧ s.pc < s.wp ∧
    ∃ i op operands after, decode (fetchWindow s) = .ok (i, after) ∧ encode i = op :: operands ∧
      (0x10 ≤ op.toNat ∧ op.toNat ≤ 0x36 ∨ 0x80 ≤ op.toNat)

/-! ## The other operations (44_vm_operations.md, 45_receive_path.md, 70_reset_and_hazards.md) -/

/-- R202: `Load` appends exactly when Idle, the bytes are exactly one well-formed instruction and they fit; then byte `k` of
them stands at `wp + k`, every other byte is as before, and `wp` has grown by their number; otherwise nothing changes. -/
def Obligations.LoadAppendsOrRejects : Prop :=
  (∀ (cap : Nat) (bytes : List Byte) (s : State),
    s.run = .idle → instrSize bytes bytes.length = some bytes.length → s.wp + bytes.length ≤ cap →
      load cap bytes s = { s with buf := (load cap bytes s).buf, wp := s.wp + bytes.length } ∧
      (∀ k, k < bytes.length → readByte (load cap bytes s).buf (s.wp + k) = bytes[k]?) ∧
      (∀ a, a < s.wp ∨ s.wp + bytes.length ≤ a → readByte (load cap bytes s).buf a = readByte s.buf a)) ∧
  (∀ (cap : Nat) (bytes : List Byte) (s : State),
    s.run ≠ .idle ∨ instrSize bytes bytes.length ≠ some bytes.length ∨ cap < s.wp + bytes.length →
      load cap bytes s = s) ∧
  (∀ (s : State) (bytes : List Byte) (ops : List Operation), s.inbox = .load bytes :: ops →
    step s = .next { load Config.bufCap bytes { s with inbox := ops } with result := .nothing }) ∧
  (∀ cap, 2 ≤ cap →
    (load cap [0x10, 0x00] State.reset).wp = 2 ∧
    readByte (load cap [0x10, 0x00] State.reset).buf 0 = some 0x10 ∧
    readByte (load cap [0x10, 0x00] State.reset).buf 1 = some 0x00)

/-- R205: `Clear` while Idle sets `wp` to 0 and changes nothing else, the bytes of `buf` stay; while Executing it changes
nothing. -/
def Obligations.ClearSetsWpToZero : Prop :=
  ∀ (s : State) (ops : List Operation), s.inbox = .clear :: ops →
    (s.run = .idle → step s = .next { s with inbox := ops, result := .nothing, wp := 0 }) ∧
    (s.run = .executing → step s = .next { s with inbox := ops, result := .nothing })

/-- R206: `Start` while Idle sets `run` to Executing and changes nothing else; where the Idle machine is at rest the run
begins at address 0 with an empty loop stack and no hold pending; with nothing loaded the first tick returns to Idle; while
Executing `Start` changes nothing. -/
def Obligations.StartSetsRun : Prop :=
  ∀ (s : State) (ops : List Operation), s.inbox = .start :: ops →
    (s.run = .idle → step s = .next { s with inbox := ops, result := .nothing, run := .executing }) ∧
    (s.run = .executing → step s = .next { s with inbox := ops, result := .nothing }) ∧
    (IdleAtRest s → s.run = .idle → ∃ t, step s = .next t ∧ t.pc = 0 ∧ t.depth = 0 ∧ t.holdTime = 0) ∧
    (∀ now rest, IdleAtRest s → s.run = .idle → s.wp = 0 → ops = .tick now :: rest →
      ∃ t u, step s = .next t ∧ step t = .next u ∧ u.run = .idle ∧ u.result = .tick none)

/-- R207: `Stop` while Executing goes to Idle and sets the read position, the hold timer and the depth to zero; program,
`wp` and diagnostics stay; while Idle it changes nothing. -/
def Obligations.StopResetsTheRun : Prop :=
  ∀ (s : State) (ops : List Operation), s.inbox = .stop :: ops →
    (s.run = .executing → step s = .next { s with
      inbox := ops, result := .nothing, run := .idle, pc := 0, holdStart := 0, holdTime := 0, depth := 0 }) ∧
    (s.run = .idle → step s = .next { s with inbox := ops, result := .nothing })

/-- `Inspect` returns the view and changes nothing (44_vm_operations.md section 5, the spec's decision D32). -/
def Obligations.InspectReturnsTheView : Prop :=
  ∀ (s : State) (ops : List Operation), s.inbox = .inspect :: ops →
    step s = .next { s with
      inbox := ops, result := .inspect ⟨s.run, s.pc, s.wp, s.depth, s.holdStart, s.holdTime, s.diag⟩ }

/-- The codec operations read and write no state of the machine, whatever the run state: each returns its unit's answer,
with the block's own capacities (the varint unit R98, the COBS/R unit R139, the CRC8 unit R159; what `Protect` builds is
R157, which the spec marks as derived). -/
def Obligations.CodecOperationsTouchNoState : Prop :=
  ∀ (s : State) (ops : List Operation),
    (∀ v, s.inbox = .varintEnc v :: ops →
      step s = .next { s with inbox := ops, result := .varintEnc (varintEnc v) (varintEnc v).length }) ∧
    (∀ src avail, s.inbox = .varintDec src avail :: ops →
      step s = .next { s with inbox := ops, result := .varintDec (varintDec src avail) }) ∧
    (∀ x, s.inbox = .cobsrEnc x :: ops →
      step s = .next { s with inbox := ops, result := .codec (cobsrEnc Config.encCap x) }) ∧
    (∀ f, s.inbox = .cobsrDec f :: ops →
      step s = .next { s with inbox := ops, result := .codec (cobsrDec Config.decCap f) }) ∧
    (∀ d, s.inbox = .crc8 d :: ops → step s = .next { s with inbox := ops, result := .crc8 (crc8 d) }) ∧
    (∀ d, s.inbox = .crc8Check d :: ops → step s = .next { s with inbox := ops, result := .crc8Check (crc8Check d) }) ∧
    (∀ d, s.inbox = .protect d :: ops → step s = .next { s with inbox := ops, result := .protect (d ++ [crc8 d]) })

/-- A frame that does not decode, or whose checksum stage fails, changes nothing of the machine: for any parameters, and in the
step of the operation with the block's own (45_receive_path.md, the discard rules). -/
def Obligations.RxFrameDropsBadFrames : Prop :=
  (∀ (decCap bufCap : Nat) (check : Bool) (cmdDecode : List Byte → Command) (frame : List Byte) (s : State),
    ((cobsrDec decCap frame).status ≠ .ok ∨ (check = true ∧ crc8Check (cobsrDec decCap frame).data = false)) →
      rxFrame decCap bufCap check cmdDecode frame s = s) ∧
  (∀ (s : State) (frame : List Byte) (ops : List Operation), s.inbox = .rxFrame frame :: ops →
    ((cobsrDec Config.decCap frame).status ≠ .ok ∨
      (Config.crcEnable = true ∧ crc8Check (cobsrDec Config.decCap frame).data = false)) →
      step s = .next { s with inbox := ops, result := .nothing })

/-- The frame a sender builds is delivered, whenever its payload fits the decoder's buffer: the receiver does what the command
of the body that was sent says, one of five (45_receive_path.md, derived there from the round trips); and the step of the
operation is `RxFrame` with the block's own parameters, returning nothing. -/
def Obligations.RxFrameDeliversTheBody : Prop :=
  (∀ (encCap decCap bufCap : Nat) (check : Bool) (cmdDecode : List Byte → Command) (body frame : List Byte) (s : State),
    cobsrEnc encCap (if check then protect body else body) = ⟨.ok, frame⟩ →
    (if check then protect body else body).length ≤ decCap →
      (∀ bytes, cmdDecode body = .appendInstruction bytes →
        rxFrame decCap bufCap check cmdDecode frame s = load bufCap bytes s) ∧
      (cmdDecode body = .clearProgram →
        rxFrame decCap bufCap check cmdDecode frame s = if s.run = .idle then { s with wp := 0 } else s) ∧
      (cmdDecode body = .start →
        rxFrame decCap bufCap check cmdDecode frame s = if s.run = .idle then { s with run := .executing } else s) ∧
      (cmdDecode body = .stop →
        rxFrame decCap bufCap check cmdDecode frame s =
          if s.run = .executing then { s with run := .idle, pc := 0, holdStart := 0, holdTime := 0, depth := 0 } else s) ∧
      (cmdDecode body = .nothing → rxFrame decCap bufCap check cmdDecode frame s = s)) ∧
  (∀ (s : State) (frame : List Byte) (ops : List Operation), s.inbox = .rxFrame frame :: ops →
    step s = .next
      { rxFrame Config.decCap Config.bufCap Config.crcEnable Config.cmdDecode frame { s with inbox := ops } with
        result := .nothing })

/-- Reset puts every element at its reset value, abandons run and program, and keeps only what is the environment's
(70_reset_and_hazards.md section 1 and 10_state.md section 3, the spec's decision D26; what unlisted bytes and loop frames
hold is the model's choice, log entries 5 and 6, and is not stated). -/
def Obligations.ResetLeavesTheResetState : Prop :=
  ∀ (s : State) (ops : List Operation), s.inbox = .reset :: ops →
    ∃ t, step s = .next t ∧ t.run = .idle ∧ t.pc = 0 ∧ t.wp = 0 ∧ t.holdStart = 0 ∧ t.holdTime = 0 ∧ t.depth = 0 ∧
      t.diag = 0 ∧ t.result = .nothing ∧ t.inbox = ops ∧ t.now = s.now ∧
      State.reset.run = .idle ∧ State.reset.pc = 0 ∧ State.reset.wp = 0 ∧ State.reset.holdStart = 0 ∧
      State.reset.holdTime = 0 ∧ State.reset.depth = 0 ∧ State.reset.diag = 0

/-! ## The whole machine -/

/-- The reset state keeps the invariants, with any operations waiting (10_state.md section 3). -/
def Obligations.ResetSatisfiesTheInvariants : Prop :=
  ∀ ops : List Operation, Inv { State.reset with inbox := ops } ∧ ProgramWellFormed { State.reset with inbox := ops }

/-- Every step keeps the ranges, the rest of an Idle machine, the loaded buffer in canonical form and the nesting of the
loop frames (10_state.md section 2, 44_vm_operations.md section 7, derived there). -/
def Obligations.StepKeepsTheInvariant : Prop :=
  ∀ s t : State, Inv s → step s = .next t → Inv t

/-- Every step keeps the program well formed, `pc` and every resume position on an instruction boundary, and `BAD_OPCODE` and
`TRUNCATED` clear (44_vm_operations.md section 7, derived there). -/
def Obligations.StepKeepsTheProgramWellFormed : Prop :=
  ∀ s t : State, Inv s → ProgramWellFormed s → step s = .next t → ProgramWellFormed t

/-- Nothing is fatal: from a state that keeps the invariant every step answers a next state (44_vm_operations.md
section 7, 60_exceptions.md section 1). -/
def Obligations.StepAlwaysAnswersANextState : Prop :=
  ∀ s : State, Inv s → ∃ t, step s = .next t ∧ Inv t

/-- Every step keeps the canonical form of the program buffer, from any state (the model's own form of memory, log entry 5). -/
def Obligations.StepKeepsTheBufferCanonical : Prop :=
  ∀ s t : State, Memory.wf s.buf = true → step s = .next t → Memory.wf t.buf = true

/-- A byte of the program buffer changes only through `Load`, by itself or as the append-instruction command of a frame, only
while Idle, and only from `wp` up to the new `wp`; reset alone is apart (20_memory.md section 1). -/
def Obligations.OnlyLoadWritesTheBuffer : Prop :=
  ∀ (s t : State) (op : Operation) (ops : List Operation) (a : Nat),
    s.inbox = op :: ops → op ≠ .reset → step s = .next t → readByte t.buf a ≠ readByte s.buf a →
      s.run = .idle ∧ s.wp ≤ a ∧ a < t.wp ∧
      ∃ bytes, readByte t.buf a = bytes[a - s.wp]? ∧ t.wp = s.wp + bytes.length ∧
        (op = .load bytes ∨
          ∃ frame body, op = .rxFrame frame ∧ rxBody Config.decCap Config.crcEnable frame = some body ∧
            Config.cmdDecode body = .appendInstruction bytes)

/-- The run state changes only so: to Executing by `Start`, to Idle by `Stop`, by a finishing tick, or by reset; `Start` and
`Stop` may come as the command of a frame (60_exceptions.md section 6). -/
def Obligations.RunStateChangesOnlySo : Prop :=
  ∀ (s t : State) (op : Operation) (ops : List Operation),
    s.inbox = op :: ops → step s = .next t → s.run ≠ t.run →
      (t.run = .executing ∧
        (op = .start ∨
          ∃ frame body, op = .rxFrame frame ∧ rxBody Config.decCap Config.crcEnable frame = some body ∧
            Config.cmdDecode body = .start)) ∨
      (t.run = .idle ∧
        (op = .stop ∨ op = .reset ∨
          (∃ frame body, op = .rxFrame frame ∧ rxBody Config.decCap Config.crcEnable frame = some body ∧
            Config.cmdDecode body = .stop) ∨
          ∃ now, op = .tick now ∧ s.wp ≤ s.pc ∧ holding now s.holdStart s.holdTime = false))

/-- The diagnostic bits are sticky: no step but reset clears one (10_state.md section 2, the spec's decision D11). -/
def Obligations.DiagnosticBitsAreSticky : Prop :=
  ∀ (s t : State) (e : DiagEvent), s.inbox.head? ≠ some .reset → step s = .next t →
    diagSet e s.diag = true → diagSet e t.diag = true

/-- `diag` has no effect on behaviour: two states that differ only there take steps that differ only there, `Inspect`, which
shows it, apart (10_state.md section 2, the spec's decision D11). -/
def Obligations.DiagnosticsDoNotInterfere : Prop :=
  ∀ (s t : State) (d : BitVec 4), s.inbox.head? ≠ some .inspect → step s = .next t →
    ∃ t', step { s with diag := d } = .next t' ∧ { t' with diag := 0 } = { t with diag := 0 }

/-- Every run finishes: from an Executing state that keeps the invariant, if the scheduler keeps ticking and the clock keeps
advancing, so that after any number of ticks some later tick finds no hold in force, then some tick returns the machine to
Idle. Ticks inside a hold are allowed (44_vm_operations.md section 7, derived there). -/
def Obligations.EveryRunFinishes : Prop :=
  ∀ (s : State) (clock : Nat → U32), Inv s → s.run = .executing →
    (∀ n t, ticksFrom clock s n = .next t →
      ∃ m u, n ≤ m ∧ ticksFrom clock s m = .next u ∧ holding (clock m) u.holdStart u.holdTime = false) →
      ∃ n t, ticksFrom clock s n = .next t ∧ t.run = .idle
end

