-- ==== Sys2Proof/Laws/Memory.lean ====
section
/-! SUPPORT. The laws of the program buffer: a read after a write, what a write leaves alone, the canonical form kept by
every memory operation, and what a run of reads gives. -/

namespace Sys2Proof.Machine

@[simp] theorem readByte_nil (a : Nat) : readByte [] a = none := rfl

theorem readByte_writeByte_same (m : Memory) (a : Nat) (b : Byte) : readByte (writeByte m a b) a = some b := by
  induction m with
  | nil => simp [writeByte, readByte]
  | cons x m ih =>
    obtain ⟨k, v⟩ := x
    unfold writeByte
    split
    · simp [readByte]
    · split
      · simp [readByte]
      · simp [readByte, *]

theorem readByte_writeByte_other (m : Memory) (a a' : Nat) (b : Byte) (h : a' ≠ a) :
    readByte (writeByte m a b) a' = readByte m a' := by
  induction m with
  | nil => simp [writeByte, readByte, h]
  | cons x m ih =>
    obtain ⟨k, v⟩ := x
    unfold writeByte
    split
    · simp [readByte, h]
    · split
      · simp_all [readByte]
      · simp [readByte, ih]

/-- One byte after one write. -/
theorem readByte_writeByte (m : Memory) (a a' : Nat) (b : Byte) :
    readByte (writeByte m a b) a' = if a' = a then some b else readByte m a' := by
  split
  · subst_vars; exact readByte_writeByte_same m _ b
  · exact readByte_writeByte_other m a a' b (by assumption)

/-- One byte after a run of writes: inside the run the byte written there, elsewhere what was there. -/
theorem readByte_writeBytes (bs : List Byte) : ∀ (m : Memory) (a a' : Nat),
    readByte (writeBytes m a bs) a' =
      if a ≤ a' ∧ a' < a + bs.length then bs[a' - a]? else readByte m a' := by
  induction bs with
  | nil => intro m a a'; simp [writeBytes]
  | cons b bs ih =>
    intro m a a'
    rw [writeBytes, ih, readByte_writeByte]
    by_cases h0 : a' = a
    · subst h0; simp
    · by_cases h1 : a + 1 ≤ a' ∧ a' < a + 1 + bs.length
      · have h2 : a ≤ a' ∧ a' < a + (b :: bs).length := by simp only [List.length_cons]; omega
        rw [if_pos h1, if_pos h2, show a' - a = (a' - (a + 1)) + 1 by omega, List.getElem?_cons_succ]
      · have h2 : ¬ (a ≤ a' ∧ a' < a + (b :: bs).length) := by simp only [List.length_cons]; omega
        rw [if_neg h1, if_neg h2, if_neg h0]

/-- The first address of a buffer in canonical form bounds the others from below. -/
theorem wf_cons_iff (x : Host.Cell) (m : Memory) :
    Memory.wf (x :: m) = true ↔ (∀ y ∈ m, x.1 < y.1) ∧ Memory.wf m = true := by
  induction m generalizing x with
  | nil => simp [Memory.wf]
  | cons y m ih =>
    simp only [Memory.wf, Bool.and_eq_true, decide_eq_true_eq, List.mem_cons, forall_eq_or_imp]
    constructor
    · rintro ⟨hxy, hw⟩
      exact ⟨⟨hxy, fun z hz => lt_trans hxy (((ih y).mp hw).1 z hz)⟩, hw⟩
    · rintro ⟨⟨hxy, -⟩, hw⟩
      exact ⟨hxy, hw⟩

theorem mem_writeByte (m : Memory) (a : Nat) (b : Byte) (y : Host.Cell) (h : y ∈ writeByte m a b) :
    y = (a, b) ∨ y ∈ m := by
  induction m with
  | nil => simpa [writeByte] using h
  | cons x m ih =>
    obtain ⟨k, v⟩ := x
    unfold writeByte at h
    split at h
    · simpa using h
    · split at h
      · rcases List.mem_cons.mp h with h | h
        · exact .inl h
        · exact .inr (List.mem_cons_of_mem _ h)
      · rcases List.mem_cons.mp h with h | h
        · exact .inr (h ▸ List.mem_cons_self)
        · exact (ih h).imp_right (List.mem_cons_of_mem _)

/-- A write keeps the canonical form. -/
theorem writeByte_wf (m : Memory) (a : Nat) (b : Byte) (h : Memory.wf m = true) : Memory.wf (writeByte m a b) = true := by
  induction m with
  | nil => rfl
  | cons x m ih =>
    obtain ⟨k, v⟩ := x
    have hx := (wf_cons_iff (k, v) m).mp h
    unfold writeByte
    split
    · rename_i hk
      refine (wf_cons_iff _ _).mpr ⟨?_, h⟩
      intro y hy
      rcases List.mem_cons.mp hy with rfl | hy
      · exact hk
      · exact lt_trans hk (hx.1 y hy)
    · split
      · subst_vars; exact (wf_cons_iff _ _).mpr ⟨hx.1, hx.2⟩
      · refine (wf_cons_iff _ _).mpr ⟨?_, ih hx.2⟩
        intro y hy
        rcases mem_writeByte m a b y hy with rfl | hy
        · simp only; omega
        · exact hx.1 y hy

/-- A run of writes keeps the canonical form. -/
theorem writeBytes_wf (bs : List Byte) : ∀ (m : Memory) (a : Nat), Memory.wf m = true → Memory.wf (writeBytes m a bs) = true := by
  induction bs with
  | nil => intro m a h; exact h
  | cons b bs ih => intro m a h; exact ih _ _ (writeByte_wf m a b h)

theorem reset_buf_wf : Memory.wf State.reset.buf = true := rfl

/-- A run of reads is no longer than asked for. -/
theorem readUpTo_length_le (m : Memory) (n : Nat) : ∀ a, (readUpTo m a n).length ≤ n := by
  induction n with
  | zero => intro a; simp [readUpTo]
  | succ n ih => intro a; unfold readUpTo; split <;> simp [ih]

/-- Each byte of a run of reads is the byte at its address. -/
theorem readUpTo_getElem (m : Memory) (n : Nat) : ∀ a k, k < (readUpTo m a n).length →
    (readUpTo m a n)[k]? = readByte m (a + k) := by
  induction n with
  | zero => intro a k h; simp [readUpTo] at h
  | succ n ih =>
    intro a k h
    unfold readUpTo at h ⊢
    split
    · rename_i b hb
      rw [hb] at h
      cases k with
      | zero => simpa using hb.symm
      | succ k =>
        rw [List.getElem?_cons_succ, ih (a + 1) k (by simpa using h)]
        congr 1; omega
    · rename_i hb
      rw [hb] at h; simp at h

/-- A run of reads of written bytes has the full length. -/
theorem readUpTo_length_of_loaded (m : Memory) (n : Nat) : ∀ a, (∀ k, k < n → ∃ b, readByte m (a + k) = some b) →
    (readUpTo m a n).length = n := by
  induction n with
  | zero => intro a _; simp [readUpTo]
  | succ n ih =>
    intro a h
    obtain ⟨b, hb⟩ := h 0 (by omega)
    simp only [Nat.add_zero] at hb
    unfold readUpTo
    rw [hb]
    simp only [List.length_cons, Nat.add_right_cancel_iff]
    exact ih (a + 1) fun k hk => by
      obtain ⟨c, hc⟩ := h (k + 1) (by omega)
      exact ⟨c, by rw [← hc]; congr 1; omega⟩

end Sys2Proof.Machine
end

