-- ==== Sys2Proof/Laws/State.lean ====
section
/-! SUPPORT. For each named update of the state, what each field is afterwards: one lemma per field, true by unfolding the
update, so that no later proof unfolds a record update. -/

namespace Sys2Proof.Machine

@[simp] theorem goto_run (target : Nat) (s : State) : (goto target s).run = s.run := rfl
@[simp] theorem goto_pc (target : Nat) (s : State) : (goto target s).pc = target := rfl
@[simp] theorem goto_wp (target : Nat) (s : State) : (goto target s).wp = s.wp := rfl
@[simp] theorem goto_buf (target : Nat) (s : State) : (goto target s).buf = s.buf := rfl
@[simp] theorem goto_holdStart (target : Nat) (s : State) : (goto target s).holdStart = s.holdStart := rfl
@[simp] theorem goto_holdTime (target : Nat) (s : State) : (goto target s).holdTime = s.holdTime := rfl
@[simp] theorem goto_depth (target : Nat) (s : State) : (goto target s).depth = s.depth := rfl
@[simp] theorem goto_lstack (target : Nat) (s : State) : (goto target s).lstack = s.lstack := rfl
@[simp] theorem goto_diag (target : Nat) (s : State) : (goto target s).diag = s.diag := rfl
@[simp] theorem goto_now (target : Nat) (s : State) : (goto target s).now = s.now := rfl
@[simp] theorem goto_inbox (target : Nat) (s : State) : (goto target s).inbox = s.inbox := rfl
@[simp] theorem goto_result (target : Nat) (s : State) : (goto target s).result = s.result := rfl

@[simp] theorem answer_run (report : Option Report) (s : State) : (answer report s).run = s.run := rfl
@[simp] theorem answer_pc (report : Option Report) (s : State) : (answer report s).pc = s.pc := rfl
@[simp] theorem answer_wp (report : Option Report) (s : State) : (answer report s).wp = s.wp := rfl
@[simp] theorem answer_buf (report : Option Report) (s : State) : (answer report s).buf = s.buf := rfl
@[simp] theorem answer_holdStart (report : Option Report) (s : State) : (answer report s).holdStart = s.holdStart := rfl
@[simp] theorem answer_holdTime (report : Option Report) (s : State) : (answer report s).holdTime = s.holdTime := rfl
@[simp] theorem answer_depth (report : Option Report) (s : State) : (answer report s).depth = s.depth := rfl
@[simp] theorem answer_lstack (report : Option Report) (s : State) : (answer report s).lstack = s.lstack := rfl
@[simp] theorem answer_diag (report : Option Report) (s : State) : (answer report s).diag = s.diag := rfl
@[simp] theorem answer_now (report : Option Report) (s : State) : (answer report s).now = s.now := rfl
@[simp] theorem answer_inbox (report : Option Report) (s : State) : (answer report s).inbox = s.inbox := rfl
@[simp] theorem answer_result (report : Option Report) (s : State) : (answer report s).result = .tick report := rfl

@[simp] theorem raiseDiag_run (e : DiagEvent) (s : State) : (raiseDiag e s).run = s.run := rfl
@[simp] theorem raiseDiag_pc (e : DiagEvent) (s : State) : (raiseDiag e s).pc = s.pc := rfl
@[simp] theorem raiseDiag_wp (e : DiagEvent) (s : State) : (raiseDiag e s).wp = s.wp := rfl
@[simp] theorem raiseDiag_buf (e : DiagEvent) (s : State) : (raiseDiag e s).buf = s.buf := rfl
@[simp] theorem raiseDiag_holdStart (e : DiagEvent) (s : State) : (raiseDiag e s).holdStart = s.holdStart := rfl
@[simp] theorem raiseDiag_holdTime (e : DiagEvent) (s : State) : (raiseDiag e s).holdTime = s.holdTime := rfl
@[simp] theorem raiseDiag_depth (e : DiagEvent) (s : State) : (raiseDiag e s).depth = s.depth := rfl
@[simp] theorem raiseDiag_lstack (e : DiagEvent) (s : State) : (raiseDiag e s).lstack = s.lstack := rfl
@[simp] theorem raiseDiag_diag (e : DiagEvent) (s : State) : (raiseDiag e s).diag = withDiagBit e s.diag := rfl
@[simp] theorem raiseDiag_now (e : DiagEvent) (s : State) : (raiseDiag e s).now = s.now := rfl
@[simp] theorem raiseDiag_inbox (e : DiagEvent) (s : State) : (raiseDiag e s).inbox = s.inbox := rfl
@[simp] theorem raiseDiag_result (e : DiagEvent) (s : State) : (raiseDiag e s).result = s.result := rfl

@[simp] theorem armHold_run (h : U32) (s : State) : (armHold h s).run = s.run := rfl
@[simp] theorem armHold_pc (h : U32) (s : State) : (armHold h s).pc = s.pc := rfl
@[simp] theorem armHold_wp (h : U32) (s : State) : (armHold h s).wp = s.wp := rfl
@[simp] theorem armHold_buf (h : U32) (s : State) : (armHold h s).buf = s.buf := rfl
@[simp] theorem armHold_holdStart (h : U32) (s : State) : (armHold h s).holdStart = s.now := rfl
@[simp] theorem armHold_holdTime (h : U32) (s : State) : (armHold h s).holdTime = h := rfl
@[simp] theorem armHold_depth (h : U32) (s : State) : (armHold h s).depth = s.depth := rfl
@[simp] theorem armHold_lstack (h : U32) (s : State) : (armHold h s).lstack = s.lstack := rfl
@[simp] theorem armHold_diag (h : U32) (s : State) : (armHold h s).diag = s.diag := rfl
@[simp] theorem armHold_now (h : U32) (s : State) : (armHold h s).now = s.now := rfl
@[simp] theorem armHold_inbox (h : U32) (s : State) : (armHold h s).inbox = s.inbox := rfl
@[simp] theorem armHold_result (h : U32) (s : State) : (armHold h s).result = s.result := rfl

@[simp] theorem clearHold_run (s : State) : (clearHold s).run = s.run := rfl
@[simp] theorem clearHold_pc (s : State) : (clearHold s).pc = s.pc := rfl
@[simp] theorem clearHold_wp (s : State) : (clearHold s).wp = s.wp := rfl
@[simp] theorem clearHold_buf (s : State) : (clearHold s).buf = s.buf := rfl
@[simp] theorem clearHold_holdStart (s : State) : (clearHold s).holdStart = s.holdStart := rfl
@[simp] theorem clearHold_holdTime (s : State) : (clearHold s).holdTime = 0 := rfl
@[simp] theorem clearHold_depth (s : State) : (clearHold s).depth = s.depth := rfl
@[simp] theorem clearHold_lstack (s : State) : (clearHold s).lstack = s.lstack := rfl
@[simp] theorem clearHold_diag (s : State) : (clearHold s).diag = s.diag := rfl
@[simp] theorem clearHold_now (s : State) : (clearHold s).now = s.now := rfl
@[simp] theorem clearHold_inbox (s : State) : (clearHold s).inbox = s.inbox := rfl
@[simp] theorem clearHold_result (s : State) : (clearHold s).result = s.result := rfl

@[simp] theorem latchClock_run (t : U32) (s : State) : (latchClock t s).run = s.run := rfl
@[simp] theorem latchClock_pc (t : U32) (s : State) : (latchClock t s).pc = s.pc := rfl
@[simp] theorem latchClock_wp (t : U32) (s : State) : (latchClock t s).wp = s.wp := rfl
@[simp] theorem latchClock_buf (t : U32) (s : State) : (latchClock t s).buf = s.buf := rfl
@[simp] theorem latchClock_holdStart (t : U32) (s : State) : (latchClock t s).holdStart = s.holdStart := rfl
@[simp] theorem latchClock_holdTime (t : U32) (s : State) : (latchClock t s).holdTime = s.holdTime := rfl
@[simp] theorem latchClock_depth (t : U32) (s : State) : (latchClock t s).depth = s.depth := rfl
@[simp] theorem latchClock_lstack (t : U32) (s : State) : (latchClock t s).lstack = s.lstack := rfl
@[simp] theorem latchClock_diag (t : U32) (s : State) : (latchClock t s).diag = s.diag := rfl
@[simp] theorem latchClock_now (t : U32) (s : State) : (latchClock t s).now = t := rfl
@[simp] theorem latchClock_inbox (t : U32) (s : State) : (latchClock t s).inbox = s.inbox := rfl
@[simp] theorem latchClock_result (t : U32) (s : State) : (latchClock t s).result = s.result := rfl

@[simp] theorem withInbox_run (rest : List Operation) (s : State) : (withInbox rest s).run = s.run := rfl
@[simp] theorem withInbox_pc (rest : List Operation) (s : State) : (withInbox rest s).pc = s.pc := rfl
@[simp] theorem withInbox_wp (rest : List Operation) (s : State) : (withInbox rest s).wp = s.wp := rfl
@[simp] theorem withInbox_buf (rest : List Operation) (s : State) : (withInbox rest s).buf = s.buf := rfl
@[simp] theorem withInbox_holdStart (rest : List Operation) (s : State) : (withInbox rest s).holdStart = s.holdStart := rfl
@[simp] theorem withInbox_holdTime (rest : List Operation) (s : State) : (withInbox rest s).holdTime = s.holdTime := rfl
@[simp] theorem withInbox_depth (rest : List Operation) (s : State) : (withInbox rest s).depth = s.depth := rfl
@[simp] theorem withInbox_lstack (rest : List Operation) (s : State) : (withInbox rest s).lstack = s.lstack := rfl
@[simp] theorem withInbox_diag (rest : List Operation) (s : State) : (withInbox rest s).diag = s.diag := rfl
@[simp] theorem withInbox_now (rest : List Operation) (s : State) : (withInbox rest s).now = s.now := rfl
@[simp] theorem withInbox_inbox (rest : List Operation) (s : State) : (withInbox rest s).inbox = rest := rfl
@[simp] theorem withInbox_result (rest : List Operation) (s : State) : (withInbox rest s).result = s.result := rfl

@[simp] theorem withResult_run (r : Result) (s : State) : (withResult r s).run = s.run := rfl
@[simp] theorem withResult_pc (r : Result) (s : State) : (withResult r s).pc = s.pc := rfl
@[simp] theorem withResult_wp (r : Result) (s : State) : (withResult r s).wp = s.wp := rfl
@[simp] theorem withResult_buf (r : Result) (s : State) : (withResult r s).buf = s.buf := rfl
@[simp] theorem withResult_holdStart (r : Result) (s : State) : (withResult r s).holdStart = s.holdStart := rfl
@[simp] theorem withResult_holdTime (r : Result) (s : State) : (withResult r s).holdTime = s.holdTime := rfl
@[simp] theorem withResult_depth (r : Result) (s : State) : (withResult r s).depth = s.depth := rfl
@[simp] theorem withResult_lstack (r : Result) (s : State) : (withResult r s).lstack = s.lstack := rfl
@[simp] theorem withResult_diag (r : Result) (s : State) : (withResult r s).diag = s.diag := rfl
@[simp] theorem withResult_now (r : Result) (s : State) : (withResult r s).now = s.now := rfl
@[simp] theorem withResult_inbox (r : Result) (s : State) : (withResult r s).inbox = s.inbox := rfl
@[simp] theorem withResult_result (r : Result) (s : State) : (withResult r s).result = r := rfl

@[simp] theorem resetRun_run (s : State) : (resetRun s).run = .idle := rfl
@[simp] theorem resetRun_pc (s : State) : (resetRun s).pc = 0 := rfl
@[simp] theorem resetRun_wp (s : State) : (resetRun s).wp = s.wp := rfl
@[simp] theorem resetRun_buf (s : State) : (resetRun s).buf = s.buf := rfl
@[simp] theorem resetRun_holdStart (s : State) : (resetRun s).holdStart = 0 := rfl
@[simp] theorem resetRun_holdTime (s : State) : (resetRun s).holdTime = 0 := rfl
@[simp] theorem resetRun_depth (s : State) : (resetRun s).depth = 0 := rfl
@[simp] theorem resetRun_lstack (s : State) : (resetRun s).lstack = s.lstack := rfl
@[simp] theorem resetRun_diag (s : State) : (resetRun s).diag = s.diag := rfl
@[simp] theorem resetRun_now (s : State) : (resetRun s).now = s.now := rfl
@[simp] theorem resetRun_inbox (s : State) : (resetRun s).inbox = s.inbox := rfl
@[simp] theorem resetRun_result (s : State) : (resetRun s).result = s.result := rfl

@[simp] theorem truncated_run (s : State) : (truncated s).run = s.run := rfl
@[simp] theorem truncated_pc (s : State) : (truncated s).pc = s.wp := rfl
@[simp] theorem truncated_wp (s : State) : (truncated s).wp = s.wp := rfl
@[simp] theorem truncated_buf (s : State) : (truncated s).buf = s.buf := rfl
@[simp] theorem truncated_holdStart (s : State) : (truncated s).holdStart = s.holdStart := rfl
@[simp] theorem truncated_holdTime (s : State) : (truncated s).holdTime = s.holdTime := rfl
@[simp] theorem truncated_depth (s : State) : (truncated s).depth = s.depth := rfl
@[simp] theorem truncated_lstack (s : State) : (truncated s).lstack = s.lstack := rfl
@[simp] theorem truncated_diag (s : State) : (truncated s).diag = withDiagBit .truncated s.diag := rfl
@[simp] theorem truncated_now (s : State) : (truncated s).now = s.now := rfl
@[simp] theorem truncated_inbox (s : State) : (truncated s).inbox = s.inbox := rfl
@[simp] theorem truncated_result (s : State) : (truncated s).result = .tick none := rfl

@[simp] theorem pushFrame_run (f : LoopFrame) (s : State) : (pushFrame f s).run = s.run := rfl
@[simp] theorem pushFrame_pc (f : LoopFrame) (s : State) : (pushFrame f s).pc = s.pc := rfl
@[simp] theorem pushFrame_wp (f : LoopFrame) (s : State) : (pushFrame f s).wp = s.wp := rfl
@[simp] theorem pushFrame_buf (f : LoopFrame) (s : State) : (pushFrame f s).buf = s.buf := rfl
@[simp] theorem pushFrame_holdStart (f : LoopFrame) (s : State) : (pushFrame f s).holdStart = s.holdStart := rfl
@[simp] theorem pushFrame_holdTime (f : LoopFrame) (s : State) : (pushFrame f s).holdTime = s.holdTime := rfl
@[simp] theorem pushFrame_depth (f : LoopFrame) (s : State) : (pushFrame f s).depth = s.depth + 1 := rfl
@[simp] theorem pushFrame_lstack (f : LoopFrame) (s : State) : (pushFrame f s).lstack = s.lstack.set s.depth f := rfl
@[simp] theorem pushFrame_diag (f : LoopFrame) (s : State) : (pushFrame f s).diag = s.diag := rfl
@[simp] theorem pushFrame_now (f : LoopFrame) (s : State) : (pushFrame f s).now = s.now := rfl
@[simp] theorem pushFrame_inbox (f : LoopFrame) (s : State) : (pushFrame f s).inbox = s.inbox := rfl
@[simp] theorem pushFrame_result (f : LoopFrame) (s : State) : (pushFrame f s).result = s.result := rfl

@[simp] theorem popFrame_run (s : State) : (popFrame s).run = s.run := rfl
@[simp] theorem popFrame_pc (s : State) : (popFrame s).pc = s.pc := rfl
@[simp] theorem popFrame_wp (s : State) : (popFrame s).wp = s.wp := rfl
@[simp] theorem popFrame_buf (s : State) : (popFrame s).buf = s.buf := rfl
@[simp] theorem popFrame_holdStart (s : State) : (popFrame s).holdStart = s.holdStart := rfl
@[simp] theorem popFrame_holdTime (s : State) : (popFrame s).holdTime = s.holdTime := rfl
@[simp] theorem popFrame_depth (s : State) : (popFrame s).depth = s.depth - 1 := rfl
@[simp] theorem popFrame_lstack (s : State) : (popFrame s).lstack = s.lstack := rfl
@[simp] theorem popFrame_diag (s : State) : (popFrame s).diag = s.diag := rfl
@[simp] theorem popFrame_now (s : State) : (popFrame s).now = s.now := rfl
@[simp] theorem popFrame_inbox (s : State) : (popFrame s).inbox = s.inbox := rfl
@[simp] theorem popFrame_result (s : State) : (popFrame s).result = s.result := rfl

@[simp] theorem setTopCount_run (c : U32) (s : State) : (setTopCount c s).run = s.run := rfl
@[simp] theorem setTopCount_pc (c : U32) (s : State) : (setTopCount c s).pc = s.pc := rfl
@[simp] theorem setTopCount_wp (c : U32) (s : State) : (setTopCount c s).wp = s.wp := rfl
@[simp] theorem setTopCount_buf (c : U32) (s : State) : (setTopCount c s).buf = s.buf := rfl
@[simp] theorem setTopCount_holdStart (c : U32) (s : State) : (setTopCount c s).holdStart = s.holdStart := rfl
@[simp] theorem setTopCount_holdTime (c : U32) (s : State) : (setTopCount c s).holdTime = s.holdTime := rfl
@[simp] theorem setTopCount_depth (c : U32) (s : State) : (setTopCount c s).depth = s.depth := rfl
@[simp] theorem setTopCount_lstack (c : U32) (s : State) : (setTopCount c s).lstack = s.lstack.set (s.depth - 1) { topFrame s with count := c } := rfl
@[simp] theorem setTopCount_diag (c : U32) (s : State) : (setTopCount c s).diag = s.diag := rfl
@[simp] theorem setTopCount_now (c : U32) (s : State) : (setTopCount c s).now = s.now := rfl
@[simp] theorem setTopCount_inbox (c : U32) (s : State) : (setTopCount c s).inbox = s.inbox := rfl
@[simp] theorem setTopCount_result (c : U32) (s : State) : (setTopCount c s).result = s.result := rfl

end Sys2Proof.Machine
end

