-- ==== Sys2Proof/Laws/Ops.lean ====
section
/-! SUPPORT. For each shared operation, once, everything it can do: the provers cite these instead of unfolding the
operation. -/

namespace Sys2Proof.Machine

/-! Operands and sizes. -/

/-- A varint taken from the front of the bytes has between 1 and `fuel` groups, one per byte taken. -/
theorem takeGroups_ok (fuel : Nat) : ∀ (bs : List Byte) (v : Varint) (after : List Byte),
    takeGroups fuel bs = .ok (v, after) → 1 ≤ v.length ∧ v.length ≤ fuel ∧ bs.length = v.length + after.length := by
  induction fuel with
  | zero => intro bs v after h; simp [takeGroups] at h
  | succ fuel ih =>
    intro bs v after h
    cases bs with
    | nil => simp [takeGroups] at h
    | cons b rest =>
      unfold takeGroups at h
      split at h
      · split at h
        · rename_i gs after' hg
          have := ih rest gs after' hg
          obtain ⟨rfl, rfl⟩ : groupOf b :: gs = v ∧ after' = after := by simpa using h
          simp only [List.length_cons]; omega
        · cases h
      · obtain ⟨rfl, rfl⟩ : [groupOf b] = v ∧ rest = after := by simpa using h
        simp only [List.length_cons, List.length_nil]; omega

theorem encodeVarint_length (v : Varint) : (encodeVarint v).length = v.length := by
  induction v with
  | nil => rfl
  | cons g v ih => cases v with
    | nil => rfl
    | cons g' v => simpa [encodeVarint] using ih

/-- A set bit is still set after another one is. -/
theorem diagSet_withDiagBit (e e' : DiagEvent) (d : BitVec 4) :
    diagSet e (withDiagBit e' d) = (diagSet e d || decide (e = e')) := by
  cases e <;> cases e' <;> simp [diagSet, withDiagBit, diagBit]

/-- With no hold time the timer does not hold (44_vm_operations.md R209). -/
theorem holding_zero (now start : U32) : holding now start 0 = false := by simp [holding]

/-! The instructions. -/

/-- LOOPSTART pushes a frame or, on a full stack, raises LOOP_OVERFLOW; either way it moves past its operand. -/
theorem loopStart_cases (max : Nat) (count : Varint) (s : State) :
    (s.depth < max ∧ loopStart max count s =
      answer none (goto (s.pc + 1 + count.length) (pushFrame ⟨loopCount count, s.pc + 1 + count.length⟩ s))) ∨
    (max ≤ s.depth ∧ loopStart max count s =
      answer none (goto (s.pc + 1 + count.length) (raiseDiag .loopOverflow s))) := by
  unfold loopStart
  by_cases h : s.depth < max
  · exact .inl ⟨h, by simp [h]⟩
  · exact .inr ⟨by omega, by simp [h]⟩

/-- LOOPEND underflows, pops or resumes. -/
theorem loopEnd_cases (s : State) :
    (s.depth = 0 ∧ loopEnd s = answer none (goto (s.pc + 1) (raiseDiag .loopUnderflow s))) ∨
    (s.depth ≠ 0 ∧ (topFrame s).count - 1 = 0 ∧ loopEnd s = answer none (goto (s.pc + 1) (popFrame s))) ∨
    (s.depth ≠ 0 ∧ (topFrame s).count - 1 ≠ 0 ∧
      loopEnd s = answer none (goto (topFrame s).resume (setTopCount ((topFrame s).count - 1) s))) := by
  unfold loopEnd
  by_cases h : s.depth = 0
  · exact .inl ⟨h, by simp [h]⟩
  · by_cases hc : (topFrame s).count - 1 = 0
    · exact .inr (.inl ⟨h, hc, by simp only [if_neg h, if_pos hc]⟩)
    · exact .inr (.inr ⟨h, hc, by simp only [if_neg h, if_neg hc]⟩)

/-- Every instruction answers a next state, by one of the five shared meanings. -/
theorem exec_cases (i : Instr) (s : State) :
    (∃ op, encode i = [op] ∧ validOpcode op = false ∧ exec i s = .next (invalidOpcode s)) ∨
    (∃ count, i = .loopstart count ∧ exec i s = .next (loopStart Config.loopMaxDepth count s)) ∨
    (i = .loopend ∧ exec i s = .next (loopEnd s)) ∨
    (∃ op hold, encode i = op :: encodeVarint hold ∧ 0x10 ≤ op.toNat ∧ op.toNat ≤ 0x36 ∧
      exec i s = .next (basicReport op hold s)) ∨
    (∃ mask lits hold, i = .cplx mask lits hold ∧ exec i s = .next (complexReport mask lits hold s)) := by
  cases i
  case loopstart count => exact .inr (.inl ⟨count, rfl, rfl⟩)
  case loopend => exact .inr (.inr (.inl ⟨rfl, rfl⟩))
  case cplx mask lits hold => exact .inr (.inr (.inr (.inr ⟨mask, lits, hold, rfl, rfl⟩)))
  all_goals first
    | exact .inl ⟨_, rfl, rfl, rfl⟩
    | exact .inr (.inr (.inr (.inl ⟨_, _, rfl, by decide, by decide, rfl⟩)))

/-! The operations. -/

/-- A fetch runs an instruction, takes the truncated path, or meets a byte nothing has written. -/
theorem fetchExecute_cases (s : State) :
    (∃ i after, decode (fetchWindow s) = .ok (i, after) ∧ fetchExecute s = exec i s) ∨
    (∃ e, decode (fetchWindow s) = .error e ∧ fetchExecute s = .next (truncated s)) ∨
    (∃ e, decode (fetchWindow s) = .error e ∧ s.pc + (fetchWindow s).length ≠ s.wp ∧
      fetchExecute s = .fault (.unwrittenByte (s.pc + (fetchWindow s).length))) := by
  unfold fetchExecute
  split
  · rename_i i after h; exact .inl ⟨i, after, h, rfl⟩
  · rename_i h; exact .inr (.inl ⟨_, h, rfl⟩)
  · rename_i e _ h
    split
    · exact .inr (.inl ⟨e, h, rfl⟩)
    · rename_i hne; exact .inr (.inr ⟨e, h, hne, rfl⟩)

/-- A tick is idle, holds, finishes the run, or fetches. -/
theorem tick_cases (t : U32) (s : State) :
    (s.run = .idle ∧ tick t s = .next (answer none (latchClock t s))) ∨
    (s.run = .executing ∧ holding t s.holdStart s.holdTime = true ∧ tick t s = .next (answer none (latchClock t s))) ∨
    (s.run = .executing ∧ holding t s.holdStart s.holdTime = false ∧ s.wp ≤ s.pc ∧
      tick t s = .next (answer none (resetRun (clearHold (latchClock t s))))) ∨
    (s.run = .executing ∧ holding t s.holdStart s.holdTime = false ∧ s.pc < s.wp ∧
      tick t s = fetchExecute (clearHold (latchClock t s))) := by
  unfold tick
  cases hr : s.run with
  | idle => exact .inl ⟨rfl, by simp⟩
  | executing =>
    cases hh : holding t s.holdStart s.holdTime with
    | true => exact .inr (.inl ⟨rfl, rfl, by simp⟩)
    | false =>
      by_cases hp : s.wp ≤ s.pc
      · exact .inr (.inr (.inl ⟨rfl, rfl, hp, by simp [hp]⟩))
      · exact .inr (.inr (.inr ⟨rfl, rfl, by omega, by simp [hp]⟩))

/-- `Load` appends or changes nothing. -/
theorem load_cases (cap : Nat) (bytes : List Byte) (s : State) :
    (s.run = .idle ∧ instrSize bytes bytes.length = some bytes.length ∧ s.wp + bytes.length ≤ cap ∧
      load cap bytes s = { s with buf := writeBytes s.buf s.wp bytes, wp := s.wp + bytes.length }) ∨
    load cap bytes s = s := by
  unfold load
  split
  · rename_i h; exact .inl ⟨h.1, h.2.1, h.2.2, rfl⟩
  · exact .inr rfl

/-- `Clear` sets `wp` to 0 or changes nothing. -/
theorem clear_cases (s : State) : (s.run = .idle ∧ clear s = { s with wp := 0 }) ∨ (s.run = .executing ∧ clear s = s) := by
  unfold clear; cases hr : s.run <;> simp

/-- `Start` sets `run` or changes nothing. -/
theorem start_cases (s : State) :
    (s.run = .idle ∧ start s = { s with run := .executing }) ∨ (s.run = .executing ∧ start s = s) := by
  unfold start; cases hr : s.run <;> simp

/-- `Stop` resets the run or changes nothing. -/
theorem stop_cases (s : State) : (s.run = .executing ∧ stop s = resetRun s) ∨ (s.run = .idle ∧ stop s = s) := by
  unfold stop; cases hr : s.run <;> simp

/-- A command is one of the four machine operations, each under its own name, or nothing. -/
theorem runCommand_cases (cap : Nat) (c : Command) (s : State) :
    (∃ bytes, c = .appendInstruction bytes ∧ runCommand cap c s = load cap bytes s) ∨
    (c = .clearProgram ∧ runCommand cap c s = clear s) ∨ (c = .start ∧ runCommand cap c s = start s) ∨
    (c = .stop ∧ runCommand cap c s = stop s) ∨ (c = .nothing ∧ runCommand cap c s = s) := by
  cases c <;> simp [runCommand]

/-- A frame runs the command of its body, or changes nothing. -/
theorem rxFrame_cases (decCap bufCap : Nat) (check : Bool) (cmd : List Byte → Command) (frame : List Byte) (s : State) :
    (∃ body, rxBody decCap check frame = some body ∧
      rxFrame decCap bufCap check cmd frame s = runCommand bufCap (cmd body) s) ∨
    (rxBody decCap check frame = none ∧ rxFrame decCap bufCap check cmd frame s = s) := by
  unfold rxFrame
  split
  · rename_i body h; exact .inl ⟨body, h, rfl⟩
  · rename_i h; exact .inr ⟨h, rfl⟩

/-- A step invokes the operation at the front of the inbox; with none waiting nothing happens. -/
theorem step_cases (s : State) :
    (s.inbox = [] ∧ step s = .next s) ∨ (∃ op rest, s.inbox = op :: rest ∧ step s = invoke op (withInbox rest s)) := by
  unfold step invokeNext
  split
  · rename_i h; exact .inl ⟨h, rfl⟩
  · rename_i op rest h; exact .inr ⟨op, rest, h, rfl⟩

end Sys2Proof.Machine
end

