-- ==== Sys2Proof/Laws/PerInstr.lean ====
section
/-! SUPPORT. Statements about every instruction as syntax, one lemma per constructor. -/

namespace Sys2Proof.Laws.OpcodeFirst

/-- The first byte of an instruction is its opcode: it alone says whether `Load` may admit it, and its bit 7 whether it is a
complex report (30_encoding.md R60, R61, R75). -/
def Statement (i : Instr) : Prop :=
  ∃ op operands, encode i = op :: operands ∧ i.loadable = validOpcode op ∧
    (op.getLsbD 7 = true ↔ ∃ mask lits hold, i = .cplx mask lits hold)

theorem complexOpcode_class (m : Mask) : (complexOpcode m).getLsbD 7 = true := by simp [complexOpcode]

theorem invalid00 : Statement .invalid00 := ⟨_, _, rfl, rfl, by simp⟩
theorem invalid01 : Statement .invalid01 := ⟨_, _, rfl, rfl, by simp⟩
theorem invalid02 : Statement .invalid02 := ⟨_, _, rfl, rfl, by simp⟩
theorem invalid03 : Statement .invalid03 := ⟨_, _, rfl, rfl, by simp⟩
theorem invalid04 : Statement .invalid04 := ⟨_, _, rfl, rfl, by simp⟩
theorem invalid05 : Statement .invalid05 := ⟨_, _, rfl, rfl, by simp⟩
theorem invalid06 : Statement .invalid06 := ⟨_, _, rfl, rfl, by simp⟩
theorem invalid07 : Statement .invalid07 := ⟨_, _, rfl, rfl, by simp⟩
theorem invalid08 : Statement .invalid08 := ⟨_, _, rfl, rfl, by simp⟩
theorem invalid09 : Statement .invalid09 := ⟨_, _, rfl, rfl, by simp⟩
theorem invalid0A : Statement .invalid0A := ⟨_, _, rfl, rfl, by simp⟩
theorem invalid0B : Statement .invalid0B := ⟨_, _, rfl, rfl, by simp⟩
theorem invalid0C : Statement .invalid0C := ⟨_, _, rfl, rfl, by simp⟩
theorem invalid0D : Statement .invalid0D := ⟨_, _, rfl, rfl, by simp⟩
theorem loopstart (count : Varint) : Statement (.loopstart count) := ⟨_, _, rfl, rfl, by simp⟩
theorem loopend : Statement .loopend := ⟨_, _, rfl, rfl, by simp⟩
theorem rpt10 (hold : Varint) : Statement (.rpt10 hold) := ⟨_, _, rfl, rfl, by simp⟩
theorem rpt11 (hold : Varint) : Statement (.rpt11 hold) := ⟨_, _, rfl, rfl, by simp⟩
theorem rpt12 (hold : Varint) : Statement (.rpt12 hold) := ⟨_, _, rfl, rfl, by simp⟩
theorem rpt13 (hold : Varint) : Statement (.rpt13 hold) := ⟨_, _, rfl, rfl, by simp⟩
theorem rpt14 (hold : Varint) : Statement (.rpt14 hold) := ⟨_, _, rfl, rfl, by simp⟩
theorem rpt15 (hold : Varint) : Statement (.rpt15 hold) := ⟨_, _, rfl, rfl, by simp⟩
theorem rpt16 (hold : Varint) : Statement (.rpt16 hold) := ⟨_, _, rfl, rfl, by simp⟩
theorem rpt17 (hold : Varint) : Statement (.rpt17 hold) := ⟨_, _, rfl, rfl, by simp⟩
theorem rpt18 (hold : Varint) : Statement (.rpt18 hold) := ⟨_, _, rfl, rfl, by simp⟩
theorem rpt19 (hold : Varint) : Statement (.rpt19 hold) := ⟨_, _, rfl, rfl, by simp⟩
theorem rpt1A (hold : Varint) : Statement (.rpt1A hold) := ⟨_, _, rfl, rfl, by simp⟩
theorem rpt1B (hold : Varint) : Statement (.rpt1B hold) := ⟨_, _, rfl, rfl, by simp⟩
theorem rpt1C (hold : Varint) : Statement (.rpt1C hold) := ⟨_, _, rfl, rfl, by simp⟩
theorem rpt1D (hold : Varint) : Statement (.rpt1D hold) := ⟨_, _, rfl, rfl, by simp⟩
theorem rpt1E (hold : Varint) : Statement (.rpt1E hold) := ⟨_, _, rfl, rfl, by simp⟩
theorem rpt1F (hold : Varint) : Statement (.rpt1F hold) := ⟨_, _, rfl, rfl, by simp⟩
theorem rpt20 (hold : Varint) : Statement (.rpt20 hold) := ⟨_, _, rfl, rfl, by simp⟩
theorem rpt21 (hold : Varint) : Statement (.rpt21 hold) := ⟨_, _, rfl, rfl, by simp⟩
theorem rpt22 (hold : Varint) : Statement (.rpt22 hold) := ⟨_, _, rfl, rfl, by simp⟩
theorem rpt23 (hold : Varint) : Statement (.rpt23 hold) := ⟨_, _, rfl, rfl, by simp⟩
theorem rpt24 (hold : Varint) : Statement (.rpt24 hold) := ⟨_, _, rfl, rfl, by simp⟩
theorem rpt25 (hold : Varint) : Statement (.rpt25 hold) := ⟨_, _, rfl, rfl, by simp⟩
theorem rpt26 (hold : Varint) : Statement (.rpt26 hold) := ⟨_, _, rfl, rfl, by simp⟩
theorem rpt27 (hold : Varint) : Statement (.rpt27 hold) := ⟨_, _, rfl, rfl, by simp⟩
theorem rpt28 (hold : Varint) : Statement (.rpt28 hold) := ⟨_, _, rfl, rfl, by simp⟩
theorem rpt29 (hold : Varint) : Statement (.rpt29 hold) := ⟨_, _, rfl, rfl, by simp⟩
theorem rpt2A (hold : Varint) : Statement (.rpt2A hold) := ⟨_, _, rfl, rfl, by simp⟩
theorem rpt2B (hold : Varint) : Statement (.rpt2B hold) := ⟨_, _, rfl, rfl, by simp⟩
theorem rpt2C (hold : Varint) : Statement (.rpt2C hold) := ⟨_, _, rfl, rfl, by simp⟩
theorem rpt2D (hold : Varint) : Statement (.rpt2D hold) := ⟨_, _, rfl, rfl, by simp⟩
theorem rpt2E (hold : Varint) : Statement (.rpt2E hold) := ⟨_, _, rfl, rfl, by simp⟩
theorem rpt2F (hold : Varint) : Statement (.rpt2F hold) := ⟨_, _, rfl, rfl, by simp⟩
theorem rpt30 (hold : Varint) : Statement (.rpt30 hold) := ⟨_, _, rfl, rfl, by simp⟩
theorem rpt31 (hold : Varint) : Statement (.rpt31 hold) := ⟨_, _, rfl, rfl, by simp⟩
theorem rpt32 (hold : Varint) : Statement (.rpt32 hold) := ⟨_, _, rfl, rfl, by simp⟩
theorem rpt33 (hold : Varint) : Statement (.rpt33 hold) := ⟨_, _, rfl, rfl, by simp⟩
theorem rpt34 (hold : Varint) : Statement (.rpt34 hold) := ⟨_, _, rfl, rfl, by simp⟩
theorem rpt35 (hold : Varint) : Statement (.rpt35 hold) := ⟨_, _, rfl, rfl, by simp⟩
theorem rpt36 (hold : Varint) : Statement (.rpt36 hold) := ⟨_, _, rfl, rfl, by simp⟩
theorem invalid37 : Statement .invalid37 := ⟨_, _, rfl, rfl, by simp⟩
theorem invalid38 : Statement .invalid38 := ⟨_, _, rfl, rfl, by simp⟩
theorem invalid39 : Statement .invalid39 := ⟨_, _, rfl, rfl, by simp⟩
theorem invalid3A : Statement .invalid3A := ⟨_, _, rfl, rfl, by simp⟩
theorem invalid3B : Statement .invalid3B := ⟨_, _, rfl, rfl, by simp⟩
theorem invalid3C : Statement .invalid3C := ⟨_, _, rfl, rfl, by simp⟩
theorem invalid3D : Statement .invalid3D := ⟨_, _, rfl, rfl, by simp⟩
theorem invalid3E : Statement .invalid3E := ⟨_, _, rfl, rfl, by simp⟩
theorem invalid3F : Statement .invalid3F := ⟨_, _, rfl, rfl, by simp⟩
theorem invalid40 : Statement .invalid40 := ⟨_, _, rfl, rfl, by simp⟩
theorem invalid41 : Statement .invalid41 := ⟨_, _, rfl, rfl, by simp⟩
theorem invalid42 : Statement .invalid42 := ⟨_, _, rfl, rfl, by simp⟩
theorem invalid43 : Statement .invalid43 := ⟨_, _, rfl, rfl, by simp⟩
theorem invalid44 : Statement .invalid44 := ⟨_, _, rfl, rfl, by simp⟩
theorem invalid45 : Statement .invalid45 := ⟨_, _, rfl, rfl, by simp⟩
theorem invalid46 : Statement .invalid46 := ⟨_, _, rfl, rfl, by simp⟩
theorem invalid47 : Statement .invalid47 := ⟨_, _, rfl, rfl, by simp⟩
theorem invalid48 : Statement .invalid48 := ⟨_, _, rfl, rfl, by simp⟩
theorem invalid49 : Statement .invalid49 := ⟨_, _, rfl, rfl, by simp⟩
theorem invalid4A : Statement .invalid4A := ⟨_, _, rfl, rfl, by simp⟩
theorem invalid4B : Statement .invalid4B := ⟨_, _, rfl, rfl, by simp⟩
theorem invalid4C : Statement .invalid4C := ⟨_, _, rfl, rfl, by simp⟩
theorem invalid4D : Statement .invalid4D := ⟨_, _, rfl, rfl, by simp⟩
theorem invalid4E : Statement .invalid4E := ⟨_, _, rfl, rfl, by simp⟩
theorem invalid4F : Statement .invalid4F := ⟨_, _, rfl, rfl, by simp⟩
theorem invalid50 : Statement .invalid50 := ⟨_, _, rfl, rfl, by simp⟩
theorem invalid51 : Statement .invalid51 := ⟨_, _, rfl, rfl, by simp⟩
theorem invalid52 : Statement .invalid52 := ⟨_, _, rfl, rfl, by simp⟩
theorem invalid53 : Statement .invalid53 := ⟨_, _, rfl, rfl, by simp⟩
theorem invalid54 : Statement .invalid54 := ⟨_, _, rfl, rfl, by simp⟩
theorem invalid55 : Statement .invalid55 := ⟨_, _, rfl, rfl, by simp⟩
theorem invalid56 : Statement .invalid56 := ⟨_, _, rfl, rfl, by simp⟩
theorem invalid57 : Statement .invalid57 := ⟨_, _, rfl, rfl, by simp⟩
theorem invalid58 : Statement .invalid58 := ⟨_, _, rfl, rfl, by simp⟩
theorem invalid59 : Statement .invalid59 := ⟨_, _, rfl, rfl, by simp⟩
theorem invalid5A : Statement .invalid5A := ⟨_, _, rfl, rfl, by simp⟩
theorem invalid5B : Statement .invalid5B := ⟨_, _, rfl, rfl, by simp⟩
theorem invalid5C : Statement .invalid5C := ⟨_, _, rfl, rfl, by simp⟩
theorem invalid5D : Statement .invalid5D := ⟨_, _, rfl, rfl, by simp⟩
theorem invalid5E : Statement .invalid5E := ⟨_, _, rfl, rfl, by simp⟩
theorem invalid5F : Statement .invalid5F := ⟨_, _, rfl, rfl, by simp⟩
theorem invalid60 : Statement .invalid60 := ⟨_, _, rfl, rfl, by simp⟩
theorem invalid61 : Statement .invalid61 := ⟨_, _, rfl, rfl, by simp⟩
theorem invalid62 : Statement .invalid62 := ⟨_, _, rfl, rfl, by simp⟩
theorem invalid63 : Statement .invalid63 := ⟨_, _, rfl, rfl, by simp⟩
theorem invalid64 : Statement .invalid64 := ⟨_, _, rfl, rfl, by simp⟩
theorem invalid65 : Statement .invalid65 := ⟨_, _, rfl, rfl, by simp⟩
theorem invalid66 : Statement .invalid66 := ⟨_, _, rfl, rfl, by simp⟩
theorem invalid67 : Statement .invalid67 := ⟨_, _, rfl, rfl, by simp⟩
theorem invalid68 : Statement .invalid68 := ⟨_, _, rfl, rfl, by simp⟩
theorem invalid69 : Statement .invalid69 := ⟨_, _, rfl, rfl, by simp⟩
theorem invalid6A : Statement .invalid6A := ⟨_, _, rfl, rfl, by simp⟩
theorem invalid6B : Statement .invalid6B := ⟨_, _, rfl, rfl, by simp⟩
theorem invalid6C : Statement .invalid6C := ⟨_, _, rfl, rfl, by simp⟩
theorem invalid6D : Statement .invalid6D := ⟨_, _, rfl, rfl, by simp⟩
theorem invalid6E : Statement .invalid6E := ⟨_, _, rfl, rfl, by simp⟩
theorem invalid6F : Statement .invalid6F := ⟨_, _, rfl, rfl, by simp⟩
theorem invalid70 : Statement .invalid70 := ⟨_, _, rfl, rfl, by simp⟩
theorem invalid71 : Statement .invalid71 := ⟨_, _, rfl, rfl, by simp⟩
theorem invalid72 : Statement .invalid72 := ⟨_, _, rfl, rfl, by simp⟩
theorem invalid73 : Statement .invalid73 := ⟨_, _, rfl, rfl, by simp⟩
theorem invalid74 : Statement .invalid74 := ⟨_, _, rfl, rfl, by simp⟩
theorem invalid75 : Statement .invalid75 := ⟨_, _, rfl, rfl, by simp⟩
theorem invalid76 : Statement .invalid76 := ⟨_, _, rfl, rfl, by simp⟩
theorem invalid77 : Statement .invalid77 := ⟨_, _, rfl, rfl, by simp⟩
theorem invalid78 : Statement .invalid78 := ⟨_, _, rfl, rfl, by simp⟩
theorem invalid79 : Statement .invalid79 := ⟨_, _, rfl, rfl, by simp⟩
theorem invalid7A : Statement .invalid7A := ⟨_, _, rfl, rfl, by simp⟩
theorem invalid7B : Statement .invalid7B := ⟨_, _, rfl, rfl, by simp⟩
theorem invalid7C : Statement .invalid7C := ⟨_, _, rfl, rfl, by simp⟩
theorem invalid7D : Statement .invalid7D := ⟨_, _, rfl, rfl, by simp⟩
theorem invalid7E : Statement .invalid7E := ⟨_, _, rfl, rfl, by simp⟩
theorem invalid7F : Statement .invalid7F := ⟨_, _, rfl, rfl, by simp⟩
theorem cplx (mask : Mask) (lits : List Byte) (hold : Varint) : Statement (.cplx mask lits hold) :=
  ⟨_, _, rfl, rfl, by simp [complexOpcode_class]⟩

end Sys2Proof.Laws.OpcodeFirst
end

