-- ==== Sys2Proof/Tests/Slice0.lean ====
section
/-! SUPPORT. Tests: the operand checks refuse ill-formed terms, every constructor's word decodes, the spec's test vectors
(95_test_vectors.md), and for every statement with hypotheses a witness that meets them together. -/

namespace Sys2Proof.Tests

open Sys2Proof.Machine Sys2Proof.Safety

/-! ## Ill-formed terms are refused -/

theorem test_wf_refuses_empty_count : (Instr.loopstart []).wf = false := by decide
theorem test_wf_refuses_six_group_count : (Instr.loopstart [0, 0, 0, 0, 0, 0]).wf = false := by decide
theorem test_wf_refuses_empty_hold : (Instr.rpt10 []).wf = false := by decide
theorem test_wf_refuses_six_group_hold : (Instr.rpt36 [1, 1, 1, 1, 1, 1]).wf = false := by decide
theorem test_wf_refuses_missing_literal : (Instr.cplx 0x03 [1] [0]).wf = false := by decide
theorem test_wf_refuses_extra_literal : (Instr.cplx 0x01 [1, 2] [0]).wf = false := by decide
theorem test_wf_refuses_empty_complex_hold : (Instr.cplx 0x00 [] []).wf = false := by decide
theorem test_wf_accepts_longest : (Instr.cplx 0x7F [1, 2, 3, 4, 5, 6, 7] [0, 0, 0, 0, 0x7F]).wf = true := by decide

/-! ## Every constructor's word decodes -/

/-- The instruction the decoder reads where the bytes hold exactly one. -/
def reads (bs : List Byte) : Option Instr :=
  match decode bs with
  | .ok (i, []) => some i
  | _ => none

/-- 30_encoding.md R62, R63, R65: LOOPSTART 3 is `0E 03`, LOOPEND is `0F`, CPLX mask `0x09` with two literals and hold 100 is
`89 04 00 64`. -/
theorem test_decode_loops_and_complex :
    [[0x0E, 0x03], [0x0F], [0x89, 0x04, 0x00, 0x64], [0x80, 0xE8, 0x07],
     [0xFF, 1, 2, 3, 4, 5, 6, 7, 0]].map reads =
    [some (.loopstart [3]), some .loopend, some (.cplx 0x09 [0x04, 0x00] [0x64]), some (.cplx 0x00 [] [0x68, 0x07]),
     some (.cplx 0x7F [1, 2, 3, 4, 5, 6, 7] [0])] := by decide

/-- 30_encoding.md R61: `0x00`..`0x0D`, one byte each. -/
theorem test_decode_reserved_opcodes : [[0x00], [0x01], [0x02], [0x03], [0x04], [0x05], [0x06], [0x07],
   [0x08], [0x09], [0x0A], [0x0B], [0x0C], [0x0D]].map reads =
  [some .invalid00, some .invalid01, some .invalid02, some .invalid03, some .invalid04, some .invalid05,
   some .invalid06, some .invalid07, some .invalid08, some .invalid09, some .invalid0A, some .invalid0B,
   some .invalid0C, some .invalid0D] := by decide

/-- 30_encoding.md R61: `0x37`..`0x7F`, one byte each. -/
theorem test_decode_unlisted_opcodes_37_to_4F : [[0x37], [0x38], [0x39], [0x3A], [0x3B], [0x3C], [0x3D], [0x3E],
   [0x3F], [0x40], [0x41], [0x42], [0x43], [0x44], [0x45], [0x46],
   [0x47], [0x48], [0x49], [0x4A], [0x4B], [0x4C], [0x4D], [0x4E],
   [0x4F]].map reads =
  [some .invalid37, some .invalid38, some .invalid39, some .invalid3A, some .invalid3B, some .invalid3C,
   some .invalid3D, some .invalid3E, some .invalid3F, some .invalid40, some .invalid41, some .invalid42,
   some .invalid43, some .invalid44, some .invalid45, some .invalid46, some .invalid47, some .invalid48,
   some .invalid49, some .invalid4A, some .invalid4B, some .invalid4C, some .invalid4D, some .invalid4E,
   some .invalid4F] := by decide

/-- 30_encoding.md R61: `0x37`..`0x7F`, one byte each. -/
theorem test_decode_unlisted_opcodes_50_to_68 : [[0x50], [0x51], [0x52], [0x53], [0x54], [0x55], [0x56], [0x57],
   [0x58], [0x59], [0x5A], [0x5B], [0x5C], [0x5D], [0x5E], [0x5F],
   [0x60], [0x61], [0x62], [0x63], [0x64], [0x65], [0x66], [0x67],
   [0x68]].map reads =
  [some .invalid50, some .invalid51, some .invalid52, some .invalid53, some .invalid54, some .invalid55,
   some .invalid56, some .invalid57, some .invalid58, some .invalid59, some .invalid5A, some .invalid5B,
   some .invalid5C, some .invalid5D, some .invalid5E, some .invalid5F, some .invalid60, some .invalid61,
   some .invalid62, some .invalid63, some .invalid64, some .invalid65, some .invalid66, some .invalid67,
   some .invalid68] := by decide

/-- 30_encoding.md R61: `0x37`..`0x7F`, one byte each. -/
theorem test_decode_unlisted_opcodes_69_to_7F : [[0x69], [0x6A], [0x6B], [0x6C], [0x6D], [0x6E], [0x6F], [0x70],
   [0x71], [0x72], [0x73], [0x74], [0x75], [0x76], [0x77], [0x78],
   [0x79], [0x7A], [0x7B], [0x7C], [0x7D], [0x7E], [0x7F]].map reads =
  [some .invalid69, some .invalid6A, some .invalid6B, some .invalid6C, some .invalid6D, some .invalid6E,
   some .invalid6F, some .invalid70, some .invalid71, some .invalid72, some .invalid73, some .invalid74,
   some .invalid75, some .invalid76, some .invalid77, some .invalid78, some .invalid79, some .invalid7A,
   some .invalid7B, some .invalid7C, some .invalid7D, some .invalid7E, some .invalid7F] := by decide

/-- 30_encoding.md R64: opcode, then the hold time, here 300 as `AC 02` (40_varint.md R91). -/
theorem test_decode_reports_10_to_23 : [[0x10, 0xAC, 0x02], [0x11, 0xAC, 0x02], [0x12, 0xAC, 0x02], [0x13, 0xAC, 0x02], [0x14, 0xAC, 0x02], [0x15, 0xAC, 0x02], [0x16, 0xAC, 0x02], [0x17, 0xAC, 0x02],
   [0x18, 0xAC, 0x02], [0x19, 0xAC, 0x02], [0x1A, 0xAC, 0x02], [0x1B, 0xAC, 0x02], [0x1C, 0xAC, 0x02], [0x1D, 0xAC, 0x02], [0x1E, 0xAC, 0x02], [0x1F, 0xAC, 0x02],
   [0x20, 0xAC, 0x02], [0x21, 0xAC, 0x02], [0x22, 0xAC, 0x02], [0x23, 0xAC, 0x02]].map reads =
  [some (.rpt10 [0x2C, 0x02]), some (.rpt11 [0x2C, 0x02]), some (.rpt12 [0x2C, 0x02]), some (.rpt13 [0x2C, 0x02]), some (.rpt14 [0x2C, 0x02]), some (.rpt15 [0x2C, 0x02]),
   some (.rpt16 [0x2C, 0x02]), some (.rpt17 [0x2C, 0x02]), some (.rpt18 [0x2C, 0x02]), some (.rpt19 [0x2C, 0x02]), some (.rpt1A [0x2C, 0x02]), some (.rpt1B [0x2C, 0x02]),
   some (.rpt1C [0x2C, 0x02]), some (.rpt1D [0x2C, 0x02]), some (.rpt1E [0x2C, 0x02]), some (.rpt1F [0x2C, 0x02]), some (.rpt20 [0x2C, 0x02]), some (.rpt21 [0x2C, 0x02]),
   some (.rpt22 [0x2C, 0x02]), some (.rpt23 [0x2C, 0x02])] := by decide

/-- 30_encoding.md R64: opcode, then the hold time, here 300 as `AC 02` (40_varint.md R91). -/
theorem test_decode_reports_24_to_36 : [[0x24, 0xAC, 0x02], [0x25, 0xAC, 0x02], [0x26, 0xAC, 0x02], [0x27, 0xAC, 0x02], [0x28, 0xAC, 0x02], [0x29, 0xAC, 0x02], [0x2A, 0xAC, 0x02], [0x2B, 0xAC, 0x02],
   [0x2C, 0xAC, 0x02], [0x2D, 0xAC, 0x02], [0x2E, 0xAC, 0x02], [0x2F, 0xAC, 0x02], [0x30, 0xAC, 0x02], [0x31, 0xAC, 0x02], [0x32, 0xAC, 0x02], [0x33, 0xAC, 0x02],
   [0x34, 0xAC, 0x02], [0x35, 0xAC, 0x02], [0x36, 0xAC, 0x02]].map reads =
  [some (.rpt24 [0x2C, 0x02]), some (.rpt25 [0x2C, 0x02]), some (.rpt26 [0x2C, 0x02]), some (.rpt27 [0x2C, 0x02]), some (.rpt28 [0x2C, 0x02]), some (.rpt29 [0x2C, 0x02]),
   some (.rpt2A [0x2C, 0x02]), some (.rpt2B [0x2C, 0x02]), some (.rpt2C [0x2C, 0x02]), some (.rpt2D [0x2C, 0x02]), some (.rpt2E [0x2C, 0x02]), some (.rpt2F [0x2C, 0x02]),
   some (.rpt30 [0x2C, 0x02]), some (.rpt31 [0x2C, 0x02]), some (.rpt32 [0x2C, 0x02]), some (.rpt33 [0x2C, 0x02]), some (.rpt34 [0x2C, 0x02]), some (.rpt35 [0x2C, 0x02]),
   some (.rpt36 [0x2C, 0x02])] := by decide

/-- 30_encoding.md R71, R73: no opcode, a missing literal, a truncated varint, five continuation bytes are rejected by name. -/
theorem test_decode_rejects_by_name :
    [decode [], decode [0x83, 1], decode [0x83, 1, 0], decode [0x10, 0x80], decode [0x0E, 0x80, 0x80, 0x80, 0x80, 0x80]].map
      (fun o => match o with | .ok _ => none | .error e => some e) =
    [some .noOpcode, some .missingLiterals, some .truncatedVarint, some .truncatedVarint, some .fiveContinuations] := by
  decide

/-- A non-minimal varint and the dropped bits of a fifth byte survive decoding and encoding (30_encoding.md R73). -/
theorem test_encode_keeps_every_group :
    (reads [0x0E, 0xFF, 0xFF, 0xFF, 0xFF, 0x7F]).map encode = some [0x0E, 0xFF, 0xFF, 0xFF, 0xFF, 0x7F] ∧
    (reads [0x10, 0x80, 0x00]).map encode = some [0x10, 0x80, 0x00] := by decide

/-- The table's bit numbering: byte `k` at bits `8k+7..8k`, zeros above `nbits`. -/
theorem test_decodeTableWord :
    decodeTableWord 8 0x0E = some (.loopstart [0]) ∧ decodeTableWord 16 0x030E = some (.loopstart [3]) ∧
    decodeTableWord 8 0x030E = some (.loopstart [0]) ∧
    decodeTableWord 8 0xFF = some (.cplx 0x7F [0, 0, 0, 0, 0, 0, 0] [0]) := by decide

/-! ## The codec units -/

/-- 95_test_vectors.md V-VE rows 1, 4, 5, 6, 8, 9, 13, 14, 15. -/
theorem test_varintEnc :
    [0, 127, 128, 300, 16383, 16384, 268435456, 0x12345678, 0xFFFFFFFF].map varintEnc =
    [[0x00], [0x7F], [0x80, 0x01], [0xAC, 0x02], [0xFF, 0x7F], [0x80, 0x80, 0x01], [0x80, 0x80, 0x80, 0x80, 0x01],
     [0xF8, 0xAC, 0xD1, 0x91, 0x01], [0xFF, 0xFF, 0xFF, 0xFF, 0x0F]] := by decide

/-- 95_test_vectors.md V-VD rows 3, 4, 5, 7, 8, 9, 11. -/
theorem test_varintDec :
    varintDec [0xAC, 0x02, 0x99] 3 = ⟨300, 2, true, false⟩ ∧
    varintDec [0xFF, 0xFF, 0xFF, 0xFF, 0x0F] 5 = ⟨0xFFFFFFFF, 5, true, false⟩ ∧
    varintDec [0x80, 0x00] 2 = ⟨0, 2, true, false⟩ ∧
    varintDec [0xFF, 0xFF, 0xFF, 0xFF, 0x7F] 5 = ⟨0xFFFFFFFF, 5, true, true⟩ ∧
    varintDec [0x80, 0x80, 0x80, 0x80, 0x10] 5 = ⟨0, 5, true, true⟩ ∧
    varintDec [0x80, 0x80] 2 = ⟨0, 2, false, false⟩ ∧
    varintDec [0xFF, 0xFF, 0xFF, 0xFF, 0xFF, 0x01] 6 = ⟨0xFFFFFFFF, 6, false, true⟩ := by decide

/-- 95_test_vectors.md V-COBS rows 1, 2, 4, 5, 6, 9, 11, 14, 15, 16, 18. -/
theorem test_cobsrFrame :
    [[], [0], [1], [5], [2, 2], [0x11, 0x22, 0, 0x33], [0xFF, 0xFF], [1, 0], [0x11, 0, 0, 0],
     [0x2F, 0xA2, 0, 0x92, 0x73, 2], [0x0E, 3]].map cobsrFrame =
    [[1], [1, 1], [2, 1], [5], [3, 2, 2], [3, 0x11, 0x22, 0x33], [0xFF, 0xFF], [2, 1, 1], [2, 0x11, 1, 1, 1],
     [3, 0x2F, 0xA2, 4, 0x92, 0x73, 2], [3, 0x0E]] := by decide

/-- 95_test_vectors.md V-COBS rows 22, 25, 26: the reduction to 0xFF, the forced close at the last byte, a block after it. -/
theorem test_cobsrFrame_around_254 :
    cobsrFrame (List.replicate 252 0x41 ++ [0xFF]) = 0xFF :: List.replicate 252 0x41 ∧
    cobsrFrame (List.replicate 253 0x41 ++ [0xFF]) = 0xFF :: (List.replicate 253 0x41 ++ [0xFF]) ∧
    cobsrFrame (List.replicate 254 0x41 ++ [0x01]) = 0xFF :: (List.replicate 254 0x41 ++ [0x02, 0x01]) := by
  decide +kernel

/-- 95_test_vectors.md V-COBS rows 40 to 47. -/
theorem test_cobsrDec_ok :
    [[2], [1, 5], [2, 5], [3, 5], [3, 5, 6], [6, 5], [5, 1, 1], [2, 1, 2, 1]].map (cobsrDec 9) =
    [⟨.ok, [2]⟩, ⟨.ok, [0, 5]⟩, ⟨.ok, [5]⟩, ⟨.ok, [5, 3]⟩, ⟨.ok, [5, 6]⟩, ⟨.ok, [5, 6]⟩, ⟨.ok, [1, 1, 5]⟩,
     ⟨.ok, [1, 0, 1]⟩] := by decide

/-- 95_test_vectors.md V-COBS rows 49 to 56. -/
theorem test_cobsrDec_errors :
    [[], [0], [2, 0], [2, 5, 0], [1, 0, 1]].map (cobsrDec 9) = List.replicate 5 ⟨.malformed, []⟩ ∧
    cobsrDec 2 [3, 5, 6, 7] = ⟨.overflow, []⟩ ∧ cobsrDec 2 [3, 5, 6] = ⟨.ok, [5, 6]⟩ ∧
    cobsrDec 1 [2, 5, 1] = ⟨.overflow, []⟩ := by decide

/-- 41_cobsr.md R126 against R135 on one frame with both errors in it (log entry 20). -/
theorem test_decoders_name_different_errors :
    cobsrDec 1 [2, 5, 0] = ⟨.overflow, []⟩ ∧ cobsrDecBytewise 1 [2, 5, 0] = ⟨.malformed, []⟩ := by decide

/-- 95_test_vectors.md V-CRC rows 1 to 7, 12, 15. -/
theorem test_crc8 :
    [[], [0], [1], [0xFF], [0x10, 0], [0x31, 0x32, 0x33, 0x34, 0x35, 0x36, 0x37, 0x38, 0x39],
     [0x31, 0x32, 0x33, 0x34, 0x35, 0x36, 0x37, 0x38, 0x39, 0xF4], [1, 0x11, 0], [1, 0x81, 4, 0x64]].map crc8 =
    [0, 0, 7, 0xF3, 0x57, 0xF4, 0, 0x29, 0x19] := by decide +kernel

/-- 95_test_vectors.md, the `Crc8Check` lines. -/
theorem test_crc8Check :
    [[0x10, 0, 0x57], [0x10, 0, 0x56], [0], [], [1, 0x11, 0, 0x3C]].map crc8Check = [true, false, true, false, false] := by
  decide +kernel

/-! ## Loading -/

/-- 95_test_vectors.md V-LOAD, column "size", rows 1 to 16. -/
theorem test_instrSize :
    [[], [5, 0], [0x37, 0], [0x7F, 0], [0x10], [0x10, 0x80], [0x10, 0, 0], [0x0F, 0], [0x0E],
     [0x0E, 0x80, 0x80, 0x80, 0x80, 0x80], [0x0E, 0xFF, 0xFF, 0xFF, 0xFF, 0x7F], [0x83, 1, 0], [0x83, 1, 2, 0],
     [0x10, 0x80, 0], [0x80], [0xFF, 1, 2, 3, 4, 5, 6, 7, 0]].map (fun bs => instrSize bs bs.length) =
    [none, none, none, none, none, none, some 2, some 1, none, none, some 6, none, some 4, some 3, none, some 9] := by
  decide

/-- An Executing machine with these bytes loaded from address 0 and four loop frames. -/
def running (bytes : List Byte) : State :=
  { State.reset with
    run := .executing, buf := writeBytes [] 0 bytes, wp := bytes.length, lstack := List.replicate 4 LoopFrame.atReset }

/-- An Idle machine with this much loaded. -/
def idleWith (bytes : List Byte) : State := { running bytes with run := .idle }

/-- 95_test_vectors.md V-LOAD rows 7, 11, 13, 16, 17 with `BUF_CAP = 8`: the write position after the load. -/
theorem test_load :
    (load 8 [0x10, 0, 0] (idleWith [])).wp = 0 ∧ (load 8 [0x0E, 0xFF, 0xFF, 0xFF, 0xFF, 0x7F] (idleWith [])).wp = 6 ∧
    (load 8 [0x83, 1, 2, 0] (idleWith [])).wp = 4 ∧ (load 8 [0xFF, 1, 2, 3, 4, 5, 6, 7, 0] (idleWith [])).wp = 0 ∧
    (load 8 [0x10, 0] (running [])).wp = 0 := by decide +kernel

/-- 95_test_vectors.md V-LOAD row 18: exact fit is accepted, one byte more is not. -/
theorem test_load_exact_fit :
    (load 8 [0x10, 0] (idleWith [0x10, 0, 0x10, 0, 0x10, 0])).buf = writeBytes [] 0 [0x10, 0, 0x10, 0, 0x10, 0, 0x10, 0] ∧
    (load 8 [0x0F] (idleWith [0x10, 0, 0x10, 0, 0x10, 0, 0x10, 0])).wp = 8 := by decide +kernel

/-! ## One instruction, one tick -/

/-- A field of the next state. -/
def afterward {α : Type} (o : Host.Outcome State Fault Refusal) (f : State → α) : Option α :=
  match o with
  | .next t => some (f t)
  | _ => none

/-- 95_test_vectors.md V-VM row 1. -/
theorem test_loopstart :
    afterward (tick 0 (running [0x0E, 0x03, 0x0F])) (fun t => (t.pc, t.depth, t.lstack[0]?)) = some (2, 1, some ⟨3, 2⟩) := rfl

/-- 95_test_vectors.md V-VM rows 2 and 3, with `LOOP_MAX_DEPTH = 4`. -/
theorem test_loopStart_zero_and_full :
    (loopStart 4 [0] (running [0x0E, 0x00])).lstack[0]? = some ⟨1, 2⟩ ∧
    (loopStart 4 [0x2C, 0x02] { running [0x0E, 0xAC, 0x02] with depth := 4 }) =
      { running [0x0E, 0xAC, 0x02] with depth := 4, pc := 3, diag := 0b0010, result := .tick none } := by decide

/-- 95_test_vectors.md V-VM rows 10 and 11. -/
theorem test_loopend_counts :
    afterward (tick 0 { running [0x0E, 3, 0x11, 0, 0x0F] with pc := 4, depth := 1, lstack := [⟨3, 2⟩] })
      (fun t => (t.pc, t.depth, t.lstack)) = some (2, 1, [⟨2, 2⟩]) ∧
    afterward (tick 0 { running [0x0E, 3, 0x11, 0, 0x0F] with pc := 4, depth := 1, lstack := [⟨1, 2⟩] })
      (fun t => (t.pc, t.depth)) = some (5, 0) := by decide

/-- 95_test_vectors.md V-VM row 12. -/
theorem test_loopend_empty_stack :
    afterward (tick 0 (running [0x0F, 0x80, 0x00])) (fun t => (t.pc, t.depth, t.diag)) = some (1, 0, 0b0100) := by decide

/-- 95_test_vectors.md V-VM row 4. -/
theorem test_rpt10 :
    afterward (tick 500 (running [0x10, 0x00])) (fun t => (t.pc, t.holdTime, t.holdStart, t.result)) =
      some (2, 0, 500, .tick (some ⟨0, 0, 0, 0x80, 0x80, 0x80, 0x80⟩)) := by decide

/-- 95_test_vectors.md V-VM row 9. -/
theorem test_rpt11 :
    afterward (tick 9 (running [0x11, 0x05])) (fun t => (t.pc, t.holdTime, t.holdStart, t.result)) =
      some (2, 5, 9, .tick (some (Config.preset 0x11))) := rfl

/-- 95_test_vectors.md V-VM rows 5, 6, 7, 8. -/
theorem test_cplx :
    [[0x80, 0xE8, 0x07], [0x89, 0x04, 0x00, 0x64], [0xFF, 1, 2, 3, 4, 5, 6, 7, 0], [0xC0, 0xFF, 0x05]].map
      (fun bs => afterward (tick 10 (running bs)) (fun t => (t.pc, t.holdTime, t.holdStart, t.result))) =
    [some (3, 1000, 10, .tick (some ⟨0, 0, 0, 0x80, 0x80, 0x80, 0x80⟩)),
     some (4, 100, 10, .tick (some ⟨4, 0, 0, 0, 0x80, 0x80, 0x80⟩)),
     some (9, 0, 10, .tick (some ⟨1, 2, 3, 4, 5, 6, 7⟩)),
     some (3, 5, 10, .tick (some ⟨0, 0, 0, 0x80, 0x80, 0x80, 0xFF⟩))] := by decide

/-- 43_vm_instructions.md R180, the example: `0x05`. -/
theorem test_invalid05 :
    afterward (tick 0 (running [0x05, 0x0F])) (fun t => (t.run, t.pc, t.diag, t.result)) =
      some (.executing, 1, 0b0001, .tick none) := by decide

/-- 43_vm_instructions.md R182: a literal byte or a varint byte missing below `wp`. -/
theorem test_truncated :
    [[0x10], [0x0E, 0x80], [0x83, 1], [0x10, 0x80, 0x80, 0x80, 0x80, 0x80, 0x00]].map
      (fun bs => afterward (tick 0 (running bs)) (fun t => (t.pc, t.diag, t.depth, t.result))) =
    [some (1, 0b1000, 0, .tick none), some (2, 0b1000, 0, .tick none), some (2, 0b1000, 0, .tick none),
     some (7, 0b1000, 0, .tick none)] := by decide

/-- 95_test_vectors.md V-VM rows 14 to 17: a hold across a wrap of the clock. -/
theorem test_hold_across_wrap :
    [0xFFFFFFFF, 0x10, 0x21, 0x22].map
      (fun now => afterward
        (tick now { running [0x81, 1, 0x32] with pc := 3, holdTime := 50, holdStart := 0xFFFFFFF0 })
        (fun t => (t.run, t.pc, t.holdTime))) =
    [some (.executing, 3, 50), some (.executing, 3, 50), some (.executing, 3, 50), some (.idle, 0, 0)] := by decide

/-- 95_test_vectors.md P5 step 8: `Stop` cancels the hold and keeps the program. -/
theorem test_stop :
    inspect (stop { running [0x81, 1, 0x32] with pc := 3, depth := 1, holdStart := 100, holdTime := 50 }) =
      ⟨.idle, 0, 3, 0, 0, 0, 0⟩ := by decide

/-- The fault: `pc` below `wp`, nothing written there (log entry 5). -/
theorem test_unwritten_byte_faults : tick 0 { running [] with wp := 1 } = .fault (.unwrittenByte 0) := rfl

/-! ## The receive path -/

/-- 95_test_vectors.md P6, its example command decoder. -/
def commandExample : List Byte → Command
  | 0x01 :: bytes => .appendInstruction bytes
  | [0x02] => .clearProgram
  | [0x03] => .start
  | [0x04] => .stop
  | _ => .nothing

/-- 95_test_vectors.md P6 rows 2 and 5. -/
theorem test_rxFrame_accepts :
    (rxFrame 64 64 true commandExample [0xB4, 0x01, 0x0E, 0x03] (idleWith [])).buf = [(0, 0x0E), (1, 0x03)] ∧
    (rxFrame 64 64 true commandExample [0x09, 0x03] (idleWith [])).run = .executing := by decide +kernel

/-- 95_test_vectors.md P6, the failure cases. -/
theorem test_rxFrame_drops :
    [[0x03, 0x01, 0x11, 0x3C], [0x03, 0x01, 0x00, 0x29], [], [0x05, 0x05], [0x3F, 0x09], [0x90, 0x01, 0x37]].map
      (fun f => rxFrame 64 64 true commandExample f (idleWith [])) = List.replicate 6 (idleWith []) := by decide +kernel

/-! ## Where the host places a word -/

/-- `withFetchWord` makes the next step run the word. -/
theorem test_withFetchWord :
    step (State.reset.withFetchWord 8 0x7F) =
      exec .invalid7F (clearHold (withInbox [] (State.reset.withFetchWord 8 0x7F))) := rfl

/-! ## Witnesses: for every statement with hypotheses, values that meet them together -/

theorem witness_VarintDecodeOfEncode :
    (varintEnc 300).length ≤ 2 ∧ 2 ≤ (varintEnc 300 ++ [0x55]).length ∧ (3 : Nat) = (varintEnc 300 ++ [0x55]).length := by
  decide

theorem witness_VarintDecOnAnyBytes :
    (∃ v rest, takeVarint [0xFF, 0xFF, 0xFF, 0xFF, 0x7F, 0x55] = .ok (v, rest)) ∧
    (∃ e, takeVarint [0x80] = .error e) ∧ (∃ e, takeVarint [0x80, 0x80, 0x80, 0x80, 0x80] = .error e) :=
  ⟨⟨_, _, rfl⟩, ⟨_, rfl⟩, ⟨_, rfl⟩⟩

theorem witness_CobsrDecodeOfEncode :
    cobsrEnc 4 [0x11, 0x22, 0x00, 0x33] = ⟨.ok, [3, 0x11, 0x22, 0x33]⟩ ∧ [0x11, 0x22, 0x00, 0x33].length ≤ 4 := by decide

theorem witness_CobsrFrameHasNoZero : cobsrEnc 2 [0x00] = ⟨.ok, [1, 1]⟩ := by decide

theorem witness_CobsrFrameLengthBounds : ([0x05] : List Byte) ≠ [] := by decide

theorem witness_CobsrEncFailsClosed :
    (cobsrFrame [0x01]).length ≤ 2 ∧ 1 < (cobsrFrame [0x01]).length ∧ ([0x01] : List Byte).length + 1 / 254 + 1 ≤ 2 := by decide

theorem witness_CobsrZeroClosesBlock :
    (∀ x ∈ List.replicate 253 (0x41 : Byte), x ≠ 0) ∧ (List.replicate 253 (0x41 : Byte)).length < 254 ∧
    (∀ x ∈ ([] : List Byte), x ≠ 0) := by decide +kernel

theorem witness_CobsrFullBlock :
    (∀ x ∈ List.replicate 254 (0x41 : Byte), x ≠ 0) ∧ (List.replicate 254 (0x41 : Byte)).length = 254 := by decide +kernel

theorem witness_CobsrFinalBlock :
    (∀ x ∈ List.replicate 252 (0x41 : Byte), x ≠ 0) ∧ (0xFF : Byte) ≠ 0 ∧ (List.replicate 252 (0x41 : Byte)).length + 1 < 254 ∧
    (List.replicate 252 (0x41 : Byte)).length + 2 ≤ (0xFF : Byte).toNat ∧
    ¬ (List.replicate 252 (0x41 : Byte)).length + 2 ≤ (0x01 : Byte).toNat := by decide +kernel

theorem witness_CobsrEmptyPayload : (1 : Nat) ≤ 1 := by decide

theorem witness_CobsrDecRejectsZeroAndEmpty : (0 : Byte) ∈ ([2, 0] : List Byte) ∧ ([2, 0] : List Byte).length ≤ 2 := by decide

theorem witness_CobsrDecAcceptsNonzeroFrames :
    ([6, 5] : List Byte) ≠ [] ∧ (∀ b ∈ ([6, 5] : List Byte), b ≠ 0) ∧ ([6, 5] : List Byte).length ≤ 2 := by decide

theorem witness_CobsrByteAtATimeDecoderAgrees : ([3, 0x11, 0x22, 0x33] : List Byte).length ≤ 4 := by decide

theorem witness_CrcResidueForm : ([0x10, 0x00, 0x57] : List Byte) ≠ [] := by decide

theorem witness_CrcDetectsOneFlippedBit : (0 : Nat) < 8 ∧ (7 : Nat) < 8 := by decide

theorem witness_DecodeOfEncode : (Instr.cplx 0x09 [0x04, 0x00] [0x64]).wf = true := by decide

theorem witness_EncodeOfDecode : decode [0x0E, 0x03, 0x11] = .ok (.loopstart [3], [0x11]) := rfl

theorem witness_OpcodeMapIsTotal :
    validOpcode 0x37 = false ∧ validOpcode 0x0D = false ∧ validOpcode 0x36 = true ∧
    decode [0x36, 0x00] = .ok (.rpt36 [0], []) := ⟨rfl, rfl, rfl, rfl⟩

theorem witness_InstructionLengths :
    Instr.loopend.wf = true ∧ Instr.loopend.loadable = true ∧ (Instr.rpt10 [0]).wf = true ∧
    (Instr.rpt10 [0]).loadable = true := by decide

theorem witness_LoopstartPushesFrame :
    State.reset.lstack.length = Config.loopMaxDepth ∧ State.reset.depth < Config.loopMaxDepth :=
  ⟨List.length_replicate, Nat.succ_pos _⟩

theorem witness_LoopstartOnFullStackIsSkipped :
    Config.loopMaxDepth ≤ { State.reset with depth := Config.loopMaxDepth }.depth := Nat.le_refl _

theorem witness_LoopendCountsDown :
    (∀ c : U32, LiveFrame { State.reset with depth := 1, lstack := [⟨c, 2⟩] } (1 - 1) ⟨c, 2⟩) ∧
    0 < { State.reset with depth := 1, lstack := [⟨1, 2⟩] }.depth ∧ (1 : U32).toNat = 1 ∧ 1 < (2 : U32).toNat ∧
    1 < (0xFFFFFFFF : U32).toNat :=
  ⟨fun _ => ⟨Nat.one_pos, rfl⟩, Nat.one_pos, by decide, by decide, by decide⟩

theorem witness_LoopendOnEmptyStackIsSkipped : State.reset.depth = 0 := rfl

theorem witness_BasicReportsEmitPreset :
    (0x10, Instr.rpt10) ∈ reportRows ∧ (0x36, Instr.rpt36) ∈ reportRows :=
  ⟨List.mem_of_getElem? (i := 0) rfl, List.mem_of_getElem? (i := 38) rfl⟩

theorem witness_ComplexReportBuildsFields :
    ([0x04, 0x00] : List Byte).length = popcount 0x09 ∧ ([] : List Byte).length = popcount 0x00 ∧
    ([1, 2, 3, 4, 5, 6, 7] : List Byte).length = popcount 0x7F := by decide

theorem witness_EmptyMaskIsNeutral : takeVarint [0xE8, 0x07, 0x55] = .ok ([0x68, 0x07], [0x55]) := rfl

theorem witness_InvalidOpcodesAreSkipped : (0x00, Instr.invalid00) ∈ invalidRows ∧ (0x7F, Instr.invalid7F) ∈ invalidRows :=
  ⟨List.mem_of_getElem? (i := 0) rfl, List.mem_of_getElem? (i := 86) rfl⟩

/-- Executing at `89 04 00 64`, a tick waiting, the hold just over. -/
def atComplexReport : State :=
  { running [0x89, 0x04, 0x00, 0x64] with inbox := [.tick 150, .stop], holdStart := 100, holdTime := 50 }

theorem witness_StepRunsDecodedInstruction :
    atComplexReport.inbox = .tick 150 :: [.stop] ∧ atComplexReport.run = .executing ∧
    ¬ ((150 : U32) - atComplexReport.holdStart).toNat < atComplexReport.holdTime.toNat ∧
    atComplexReport.pc < atComplexReport.wp ∧
    decode (fetchWindow atComplexReport) = .ok (.cplx 0x09 [0x04, 0x00] [0x64], []) :=
  ⟨rfl, rfl, by decide, by decide, rfl⟩

theorem witness_FetchSeesTheInstructionAtPc :
    (Instr.cplx 0x09 [0x04, 0x00] [0x64]).wf = true ∧
    atComplexReport.pc + (encode (.cplx 0x09 [0x04, 0x00] [0x64])).length ≤ atComplexReport.wp ∧
    ∀ k, k < (encode (.cplx 0x09 [0x04, 0x00] [0x64])).length →
      readByte atComplexReport.buf (atComplexReport.pc + k) = (encode (.cplx 0x09 [0x04, 0x00] [0x64]))[k]? := by decide

theorem witness_FetchedCountIsVarintAt :
    ((running [0x0E, 0xAC, 0x02]).pc < (running [0x0E, 0xAC, 0x02]).wp ∧
      readByte (running [0x0E, 0xAC, 0x02]).buf 0 = some 0x0E ∧
      varintAt 1 (running [0x0E, 0xAC, 0x02]) = ⟨300, 2, true, false⟩) ∧
    ((0x10, Instr.rpt10) ∈ reportRows ∧ readByte (running [0x10, 0x05]).buf 0 = some 0x10 ∧
      varintAt 1 (running [0x10, 0x05]) = ⟨5, 1, true, false⟩) ∧
    (readByte (running [0xFF, 1, 2, 3, 4, 5, 6, 7, 0x64]).buf 0 = some (complexOpcode 0x7F) ∧
      ([1, 2, 3, 4, 5, 6, 7] : List Byte).length = popcount 0x7F ∧
      (∀ j, j < popcount 0x7F →
        readByte (running [0xFF, 1, 2, 3, 4, 5, 6, 7, 0x64]).buf (0 + 1 + j) = ([1, 2, 3, 4, 5, 6, 7] : List Byte)[j]?) ∧
      varintAt (0 + 1 + popcount 0x7F) (running [0xFF, 1, 2, 3, 4, 5, 6, 7, 0x64]) = ⟨100, 1, true, false⟩) :=
  ⟨by decide, ⟨List.mem_of_getElem? (i := 0) rfl, by decide⟩, by decide⟩

/-- The truncated clause: a varint cut short (`10`), literal bytes cut short (`83 01`), five continuation bytes. -/
theorem witness_FetchedCountIsVarintAt_truncated :
    (varintAt 1 (running [0x10])).complete = false ∧
    ((0x83 : Byte) = complexOpcode 0x03 ∧ (varintAt (0 + 1 + popcount 0x03) (running [0x83, 0x01])).complete = false) ∧
    (varintAt 1 (running [0x0E, 0x80, 0x80, 0x80, 0x80, 0x80, 0x00])).complete = false ∧
    (∀ b, b < 7 → ∃ x, readByte (running [0x0E, 0x80, 0x80, 0x80, 0x80, 0x80, 0x00]).buf b = some x) ∧
    { running [0x10] with inbox := [.tick 0] }.inbox = .tick 0 :: [] ∧ (running [0x10]).run = .executing ∧
    ¬ ((0 : U32) - (running [0x10]).holdStart).toNat < (running [0x10]).holdTime.toNat := by
  refine ⟨by decide, by decide, by decide, fun b h => ?_, rfl, rfl, by decide⟩
  exact Option.isSome_iff_exists.mp
    ((by decide : ∀ b, b < 7 → (readByte (running [0x0E, 0x80, 0x80, 0x80, 0x80, 0x80, 0x00]).buf b).isSome = true) b h)

theorem witness_TickWithoutAnInstruction :
    (∃ (s : State) (now : U32) (ops : List Operation), s.inbox = .tick now :: ops ∧ s.run = .idle) ∧
    (∃ (s : State) (now : U32) (ops : List Operation), s.inbox = .tick now :: ops ∧ s.run = .executing ∧ (now - s.holdStart).toNat < s.holdTime.toNat) ∧
    (∃ (s : State) (now : U32) (ops : List Operation), s.inbox = .tick now :: ops ∧ s.run = .executing ∧ ¬ (now - s.holdStart).toNat < s.holdTime.toNat ∧
      s.wp ≤ s.pc) :=
  ⟨⟨{ State.reset with inbox := [.tick 0] }, 0, [], rfl, rfl⟩,
   ⟨{ atComplexReport with inbox := [.tick 149] }, 149, [], rfl, rfl, by decide⟩,
   ⟨{ atComplexReport with pc := 4 }, 150, [.stop], rfl, rfl, by decide, by decide⟩⟩

theorem witness_HoldLastsItsMilliseconds : (0 : Nat) < 2 ^ 32 ∧ (2 ^ 32 - 1 : Nat) < 2 ^ 32 := by decide

/-- Executing where only an opcode that needs an operand is loaded. -/
def atTruncated : State := { running [0x10] with inbox := [.tick 0] }

theorem witness_TruncatedOperandEndsTheProgram :
    atTruncated.inbox = .tick 0 :: [] ∧ atTruncated.run = .executing ∧
    ¬ ((0 : U32) - atTruncated.holdStart).toNat < atTruncated.holdTime.toNat ∧ atTruncated.pc < atTruncated.wp ∧
    (∀ a, atTruncated.pc ≤ a → a < atTruncated.wp → ∃ b, readByte atTruncated.buf a = some b) ∧
    decode (fetchWindow atTruncated) = .error .truncatedVarint := by
  refine ⟨rfl, rfl, by decide, by decide, fun a _ h => ?_, rfl⟩
  have h' : a < 1 := h
  obtain rfl : a = 0 := by omega
  exact ⟨0x10, rfl⟩

theorem witness_ReportsComeOnlyFromReportInstructions :
    ∃ t, tick 500 (running [0x10, 0x00]) = .next t ∧ t.result = .tick (some Config.neutral) := ⟨_, rfl, rfl⟩

theorem witness_LoadAppendsOrRejects :
    ((idleWith []).run = .idle ∧ instrSize [0x10, 0x00] 2 = some 2 ∧ (idleWith []).wp + 2 ≤ 2) ∧
    (running []).run ≠ .idle ∧ instrSize [0x10, 0x00, 0x00] 3 ≠ some 3 ∧ 1 < (idleWith []).wp + 2 ∧
    { State.reset with inbox := [.load [0x0F], .start] }.inbox = .load [0x0F] :: [.start] :=
  ⟨by decide, by decide, by decide, by decide, rfl⟩

theorem witness_ClearSetsWpToZero :
    (∃ (s : State) (ops : List Operation), s.inbox = .clear :: ops ∧ s.run = .idle) ∧ (∃ (s : State) (ops : List Operation), s.inbox = .clear :: ops ∧ s.run = .executing) :=
  ⟨⟨{ idleWith [0x0F] with inbox := [.clear] }, [], rfl, rfl⟩, ⟨{ running [0x0F] with inbox := [.clear] }, [], rfl, rfl⟩⟩

theorem witness_StartSetsRun :
    (∃ (s : State) (ops : List Operation), s.inbox = .start :: ops ∧ s.run = .idle ∧ IdleAtRest s) ∧
    (∃ (s : State) (ops : List Operation), s.inbox = .start :: ops ∧ s.run = .executing) ∧
    (∃ (s : State) (ops : List Operation) (now : U32) (rest : List Operation), s.inbox = .start :: ops ∧ IdleAtRest s ∧ s.run = .idle ∧ s.wp = 0 ∧ ops = .tick now :: rest) :=
  ⟨⟨{ idleWith [0x0F] with inbox := [.start] }, [], rfl, rfl, fun _ => ⟨rfl, rfl, rfl⟩⟩,
   ⟨{ running [0x0F] with inbox := [.start] }, [], rfl, rfl⟩,
   ⟨{ idleWith [] with inbox := [.start, .tick 7] }, [.tick 7], 7, [], rfl, fun _ => ⟨rfl, rfl, rfl⟩, rfl, rfl, rfl⟩⟩

theorem witness_StopResetsTheRun :
    (∃ (s : State) (ops : List Operation), s.inbox = .stop :: ops ∧ s.run = .executing) ∧ (∃ (s : State) (ops : List Operation), s.inbox = .stop :: ops ∧ s.run = .idle) :=
  ⟨⟨{ running [0x0F] with inbox := [.stop] }, [], rfl, rfl⟩, ⟨{ idleWith [0x0F] with inbox := [.stop] }, [], rfl, rfl⟩⟩

theorem witness_InspectReturnsTheView : { State.reset with inbox := [.inspect] }.inbox = .inspect :: [] := rfl

theorem witness_CodecOperationsTouchNoState :
    { State.reset with inbox := [.varintEnc 300] }.inbox = .varintEnc 300 :: [] ∧
    { State.reset with inbox := [.varintDec [0xAC, 2] 2] }.inbox = .varintDec [0xAC, 2] 2 :: [] ∧
    { State.reset with inbox := [.cobsrEnc [5]] }.inbox = .cobsrEnc [5] :: [] ∧
    { State.reset with inbox := [.cobsrDec [5]] }.inbox = .cobsrDec [5] :: [] ∧
    { State.reset with inbox := [.crc8 [1]] }.inbox = .crc8 [1] :: [] ∧
    { State.reset with inbox := [.crc8Check [0]] }.inbox = .crc8Check [0] :: [] ∧
    { State.reset with inbox := [.protect []] }.inbox = .protect [] :: [] := ⟨rfl, rfl, rfl, rfl, rfl, rfl, rfl⟩

theorem witness_RxFrameDropsBadFrames :
    (cobsrDec 8 []).status ≠ .ok ∧ crc8Check (cobsrDec 8 [0x05, 0x05]).data = false ∧
    { State.reset with inbox := [.rxFrame []] }.inbox = .rxFrame [] :: [] ∧ (cobsrDec Config.decCap []).status ≠ .ok :=
  ⟨by decide, by decide, rfl, nofun⟩

theorem witness_RxFrameDeliversTheBody :
    cobsrEnc 2 (if true then protect [0x03] else [0x03]) = ⟨.ok, [0x09, 0x03]⟩ ∧
    (if true then protect [0x03] else [0x03]).length ≤ 2 ∧
    cobsrEnc 1 (if false then protect [0x0F] else [0x0F]) = ⟨.ok, [0x0F]⟩ ∧
    (if false then protect [0x0F] else [0x0F] : List Byte).length ≤ 1 ∧
    commandExample [0x01, 0x0F] = .appendInstruction [0x0F] ∧ commandExample [0x02] = .clearProgram ∧
    commandExample [0x03] = .start ∧ commandExample [0x04] = .stop ∧ commandExample [0x0F] = .nothing ∧
    { State.reset with inbox := [.rxFrame [0x05]] }.inbox = .rxFrame [0x05] :: [] :=
  ⟨by decide, by decide, by decide, by decide, rfl, rfl, rfl, rfl, rfl, rfl⟩

theorem witness_ResetLeavesTheResetState : { running [0x0F] with inbox := [.reset] }.inbox = .reset :: [] := rfl

/-- Executing in a program of one LOOPEND, with one live frame and a tick waiting. -/
def inOneByteProgram (ops : List Operation) : State :=
  { State.reset with
    run := .executing, buf := [(0, 0x0F)], wp := 1, depth := 1
    lstack := (List.replicate Config.loopMaxDepth LoopFrame.atReset).set 0 ⟨2, 0⟩, inbox := ops }

theorem liveFrame_inOneByteProgram (ops : List Operation) (k : Nat) (f : LoopFrame)
    (h : LiveFrame (inOneByteProgram ops) k f) : k = 0 ∧ f = ⟨2, 0⟩ := by
  obtain ⟨hk, hf⟩ := h
  obtain rfl : k = 0 := by
    have : k < 1 := hk
    omega
  refine ⟨rfl, ?_⟩
  simpa [inOneByteProgram, Config.loopMaxDepth] using hf.symm

theorem witness_Inv (ops : List Operation) : Inv (inOneByteProgram ops) where
  ranges :=
    { pc_le_wp := Nat.zero_le _
      wp_le_cap := Nat.succ_le_succ (Nat.zero_le _)
      depth_le_max := Nat.succ_le_succ (Nat.zero_le _)
      stack_size := by simp [inOneByteProgram]
      live_frames := fun k f h => by
        obtain ⟨-, rfl⟩ := liveFrame_inOneByteProgram ops k f h
        exact ⟨by decide, Nat.zero_le _⟩ }
  idle := fun h => nomatch h
  buffer :=
    { canonical := rfl
      loaded := fun a h => by
        have h' : a < 1 := h
        obtain rfl : a = 0 := by omega
        exact ⟨0x0F, rfl⟩
      bounded := fun a b h => by
        have : a = 0 := by
          by_contra hne
          simp [inOneByteProgram, readByte, hne] at h
        subst this
        exact Nat.succ_pos _ }
  nested :=
    { rising := fun j k f g hj hk hlt => by
        have := (liveFrame_inOneByteProgram ops j f hj).1
        have := (liveFrame_inOneByteProgram ops k g hk).1
        omega
      passed := fun k f h => by
        obtain ⟨-, rfl⟩ := liveFrame_inOneByteProgram ops k f h
        exact Nat.le_refl 0 }

theorem witness_ProgramWellFormed (ops : List Operation) : ProgramWellFormed (inOneByteProgram ops) := by
  refine ⟨[.loopend], by decide, rfl, fun a h => ?_, ⟨0, by decide, rfl⟩, fun k f h => ?_, ?_, ?_⟩
  · have h' : a < 1 := h
    obtain rfl : a = 0 := by omega
    rfl
  · obtain ⟨-, rfl⟩ := liveFrame_inOneByteProgram ops k f h
    exact ⟨0, by decide, rfl⟩
  · exact (by decide : diagSet .badOpcode 0 = false)
  · exact (by decide : diagSet .truncated 0 = false)

theorem witness_StepKeepsTheInvariant :
    ∃ s t : State, Inv s ∧ ProgramWellFormed s ∧ step s = .next t ∧ t.pc = 0 ∧ t.depth = 1 ∧ t.result = .tick none :=
  ⟨inOneByteProgram [.tick 7], _, witness_Inv _, witness_ProgramWellFormed _, rfl, rfl, rfl, rfl⟩

theorem witness_StepKeepsTheProgramWellFormed :
    ∃ s t : State, Inv s ∧ ProgramWellFormed s ∧ step s = .next t := witness_StepKeepsTheInvariant.imp fun _ h =>
  h.imp fun _ h => ⟨h.1, h.2.1, h.2.2.1⟩

theorem witness_StepAlwaysAnswersANextState : ∃ s : State, Inv s ∧ s.run = .executing := ⟨_, witness_Inv [], rfl⟩

theorem witness_StepKeepsTheBufferCanonical :
    ∃ s t : State, Memory.wf s.buf = true ∧ s.buf ≠ [] ∧ step s = .next t :=
  ⟨inOneByteProgram [.stop], _, rfl, nofun, rfl⟩

theorem load_loopend_from_reset (ops : List Operation) :
    load Config.bufCap [0x0F] { State.reset with inbox := ops } = { State.reset with inbox := ops, buf := [(0, 0x0F)], wp := 1 } := by
  unfold load
  rw [if_pos ⟨rfl, rfl, Nat.succ_le_succ (Nat.zero_le _)⟩]
  rfl

theorem witness_OnlyLoadWritesTheBuffer :
    ∃ (s t : State) (op : Operation) (ops : List Operation) (a : Nat),
      s.inbox = op :: ops ∧ op ≠ .reset ∧ step s = .next t ∧ readByte t.buf a ≠ readByte s.buf a :=
  ⟨{ State.reset with inbox := [.load [0x0F]] },
    withResult .nothing (load Config.bufCap [0x0F] { State.reset with inbox := [] }),
    .load [0x0F], [], 0, rfl, nofun, rfl, by rw [load_loopend_from_reset]; exact nofun⟩

theorem witness_RunStateChangesOnlySo :
    (∃ (s t : State) (op : Operation) (ops : List Operation), s.inbox = op :: ops ∧ step s = .next t ∧ s.run ≠ t.run ∧ t.run = .executing) ∧
    (∃ (s t : State) (op : Operation) (ops : List Operation), s.inbox = op :: ops ∧ step s = .next t ∧ s.run ≠ t.run ∧ t.run = .idle) :=
  ⟨⟨{ idleWith [] with inbox := [.start] }, _, .start, [], rfl, rfl, nofun, rfl⟩,
   ⟨{ running [] with inbox := [.tick 0] }, _, .tick 0, [], rfl, rfl, nofun, rfl⟩⟩

theorem witness_DiagnosticBitsAreSticky :
    ∃ (s t : State) (e : DiagEvent), s.inbox.head? ≠ some .reset ∧ step s = .next t ∧ diagSet e s.diag = true :=
  ⟨{ running [0x0F] with inbox := [.tick 0], diag := 0b0001 }, _, .badOpcode, nofun, rfl, rfl⟩

theorem witness_DiagnosticsDoNotInterfere :
    ∃ s t : State, s.inbox.head? ≠ some .inspect ∧ step s = .next t ∧ t.diag ≠ s.diag :=
  ⟨{ running [0x0F] with inbox := [.tick 0] }, _, nofun, rfl, by decide⟩

/-- The first state of a run of `EveryRunFinishes`: at a LOOPEND with no frame, holding for 5 ms from clock value 0. -/
def holdingRun : State :=
  { inOneByteProgram [] with depth := 0, lstack := List.replicate Config.loopMaxDepth LoopFrame.atReset, holdTime := 5 }

/-- Its clock: the first tick comes inside the hold, every later one after it. -/
def holdingRunClock : Nat → U32
  | 0 => 4
  | _ + 1 => 7

theorem inv_holdingRun : Inv holdingRun where
  ranges :=
    { pc_le_wp := Nat.zero_le _
      wp_le_cap := Nat.succ_le_succ (Nat.zero_le _)
      depth_le_max := Nat.zero_le _
      stack_size := List.length_replicate
      live_frames := fun k _ h => absurd h.1 (Nat.not_lt_zero k) }
  idle := fun h => nomatch h
  buffer :=
    { canonical := rfl
      loaded := (witness_Inv []).buffer.loaded
      bounded := (witness_Inv []).buffer.bounded }
  nested :=
    { rising := fun j _ _ _ h _ _ => absurd h.1 (Nat.not_lt_zero j)
      passed := fun k _ h => absurd h.1 (Nat.not_lt_zero k) }

/-- The run: a tick inside the hold, the LOOPEND, the end of the program, and Idle from then on. -/
theorem ticks_holdingRun (n : Nat) :
    ∃ t, ticksFrom holdingRunClock holdingRun (n + 1) = .next t ∧
      (t = answer none (latchClock 4 holdingRun) ∨ t = loopEnd (clearHold (latchClock 7 holdingRun)) ∨
        t = answer none (resetRun (loopEnd (clearHold (latchClock 7 holdingRun))))) := by
  induction n with
  | zero => exact ⟨_, rfl, .inl rfl⟩
  | succ n ih =>
    obtain ⟨t, ht, h⟩ := ih
    rw [ticksFrom, ht]
    rcases h with rfl | rfl | rfl
    · refine ⟨_, ?_, .inr (.inl rfl)⟩
      rcases tick_cases 7 (answer none (latchClock 4 holdingRun)) with h | h | h | h
      · exact nomatch h.1
      · exact absurd h.2.1 (by decide : ¬ holding 7 0 5 = true)
      · exact absurd h.2.2.1 (by decide : ¬ 1 ≤ 0)
      · exact h.2.2.2.trans rfl
    · exact ⟨_, rfl, .inr (.inr rfl)⟩
    · exact ⟨_, rfl, .inr (.inr rfl)⟩

theorem witness_EveryRunFinishes :
    Inv holdingRun ∧ holdingRun.run = .executing ∧ holding (holdingRunClock 0) holdingRun.holdStart holdingRun.holdTime = true ∧
    ∀ n t, ticksFrom holdingRunClock holdingRun n = .next t →
      ∃ m u, n ≤ m ∧ ticksFrom holdingRunClock holdingRun m = .next u ∧
        holding (holdingRunClock m) u.holdStart u.holdTime = false := by
  refine ⟨inv_holdingRun, rfl, rfl, fun n t _ => ?_⟩
  obtain ⟨u, hu, h⟩ := ticks_holdingRun n
  refine ⟨n + 1, u, Nat.le_succ n, hu, ?_⟩
  rcases h with rfl | rfl | rfl
  · exact (by decide : holding 7 0 5 = false)
  · rfl
  · rfl

end Sys2Proof.Tests
end

section
/-! The varint unit's round trip (40_varint.md R97). The bytes of a varint carry one group each; a decoder that has read
the groups below bit `7 * i` reads off the rest of a value that fits in the bits left. -/

namespace Sys2Proof.Machine

/-! The fields of a varint byte (R90). -/

@[simp] theorem continues_contByte (g : Group) : continues (contByte g) = true := by simp [continues, contByte]

@[simp] theorem continues_lastByte (g : Group) : continues (lastByte g) = false := by simp [continues, lastByte]

@[simp] theorem groupOf_contByte (g : Group) : groupOf (contByte g) = g := by simp [groupOf, contByte]

@[simp] theorem groupOf_lastByte (g : Group) : groupOf (lastByte g) = g := by simp [groupOf, lastByte]

/-- The bits a fifth byte drops are bits 4 to 6 of its group (R95). -/
theorem dropped_bits : ∀ b : Byte, b &&& 0x70 ≠ 0 ↔ 16 ≤ (groupOf b).toNat := by decide

/-! What the encoder emits for a value: its low group, and then the encoding of what is left (R91). -/

/-- The group of a value below 0x80 is the whole value. -/
theorem setWidth_group_of_lt {v : U32} (h : v < 0x80) : (v.setWidth 7).setWidth 32 = v := by
  apply BitVec.eq_of_toNat_eq
  have : v.toNat < 128 := h
  simp only [BitVec.toNat_setWidth]
  omega

/-- A value is its low group with the rest above it. -/
theorem group_or_rest (v : U32) : (v.setWidth 7).setWidth 32 ||| (v >>> 7) <<< 7 = v := by
  ext k hk
  by_cases h : k < 7
  · simp [h, BitVec.getLsbD_eq_getElem hk]
  · simp [h, Nat.add_sub_cancel' (Nat.le_of_not_lt h), BitVec.getLsbD_eq_getElem hk]

theorem varintEncBytes_of_lt (fuel : Nat) {v : U32} (h : v < 0x80) :
    varintEncBytes (fuel + 1) v = [lastByte (v.setWidth 7)] := by
  have hbyte : v.setWidth 8 = lastByte (v.setWidth 7) := by
    rw [lastByte, ← congrArg (BitVec.setWidth 8) (setWidth_group_of_lt h)]
    simp
  rw [varintEncBytes, if_pos h, hbyte]

theorem varintEncBytes_of_not_lt (fuel : Nat) {v : U32} (h : ¬ v < 0x80) :
    varintEncBytes (fuel + 1) v = contByte (v.setWidth 7) :: varintEncBytes fuel (v >>> 7) := by
  have hbyte : (v.setWidth 8 &&& 0x7F) ||| 0x80 = contByte (v.setWidth 7) := by
    ext k hk
    interval_cases k <;> simp [contByte]
  rw [varintEncBytes, if_neg h, hbyte]

theorem varintEncBytes_length_pos (fuel : Nat) (v : U32) : 1 ≤ (varintEncBytes (fuel + 1) v).length := by
  by_cases h : v < 0x80
  · simp [varintEncBytes_of_lt fuel h]
  · simp [varintEncBytes_of_not_lt fuel h]

theorem varintEncBytes_length_le (fuel : Nat) : ∀ v : U32, (varintEncBytes fuel v).length ≤ fuel := by
  induction fuel with
  | zero => exact fun _ => Nat.le_refl 0
  | succ fuel ih =>
    intro v
    by_cases h : v < 0x80
    · simp [varintEncBytes_of_lt fuel h]
    · simpa [varintEncBytes_of_not_lt fuel h] using ih (v >>> 7)

theorem varintEnc_length (u : U32) : 1 ≤ (varintEnc u).length ∧ (varintEnc u).length ≤ 5 :=
  ⟨varintEncBytes_length_pos 4 u, varintEncBytes_length_le 5 u⟩

/-! What the decoding loop does with one byte (R93, R95): it takes the group in, and a continuation byte goes on. -/

section
variable (avail i : Nat) (hi : i < 5) (acc : U32) (o : Bool) (rest : List Byte)
include hi

theorem varintDecFrom_cons (b : Byte) :
    varintDecFrom avail i acc o (b :: rest) =
      if continues b then
        varintDecFrom avail (i + 1) (acc ||| (groupOf b).setWidth 32 <<< (7 * i))
          (o || (i = 4 && decide (16 ≤ (groupOf b).toNat))) rest
      else ⟨acc ||| (groupOf b).setWidth 32 <<< (7 * i), i + 1, true, o || (i = 4 && decide (16 ≤ (groupOf b).toNat))⟩ := by
  have hmax : i ≠ Config.varintMaxGroups := hi.ne
  simp only [varintDecFrom, if_neg hmax, dropped_bits]

theorem varintDecFrom_contByte (g : Group) :
    varintDecFrom avail i acc o (contByte g :: rest) =
      varintDecFrom avail (i + 1) (acc ||| g.setWidth 32 <<< (7 * i)) (o || (i = 4 && decide (16 ≤ g.toNat))) rest := by
  simp [varintDecFrom_cons avail i hi]

theorem varintDecFrom_lastByte (g : Group) :
    varintDecFrom avail i acc o (lastByte g :: rest) =
      ⟨acc ||| g.setWidth 32 <<< (7 * i), i + 1, true, o || (i = 4 && decide (16 ≤ g.toNat))⟩ := by
  simp [varintDecFrom_cons avail i hi]

end

/-- The last byte of a value that fits above bit `7 * i`. The bound keeps a fifth group below 16, so no bit is dropped. -/
theorem varintDecFrom_varintEncBytes_of_lt (avail : Nat) (rest : List Byte) (fuel i : Nat) (acc v : U32) (hi : i < 5)
    (hv : v.toNat < 2 ^ (32 - 7 * i)) (h : v < 0x80) :
    varintDecFrom avail i acc false (varintEncBytes (fuel + 1) v ++ rest) =
      ⟨acc ||| v <<< (7 * i), i + (varintEncBytes (fuel + 1) v).length, true, false⟩ := by
  have hkeeps : (decide (i = 4) && decide (16 ≤ (v.setWidth 7).toNat)) = false := by
    suffices i = 4 → (v.setWidth 7).toNat < 16 by simpa
    rintro rfl
    exact (BitVec.toNat_setWidth 7 v).trans_lt ((Nat.mod_le _ _).trans_lt hv)
  rw [varintEncBytes_of_lt fuel h, List.singleton_append, varintDecFrom_lastByte avail i hi, setWidth_group_of_lt h, hkeeps]
  rfl

/-- The generalised round trip: with `fuel + 1` bytes to go, the loop that has accumulated `acc` takes in a value that
fits above bit `7 * i`. -/
theorem varintDecFrom_varintEncBytes (avail : Nat) (rest : List Byte) (fuel : Nat) : ∀ (i : Nat) (acc v : U32),
    i + fuel = 4 → v.toNat < 2 ^ (32 - 7 * i) →
      varintDecFrom avail i acc false (varintEncBytes (fuel + 1) v ++ rest) =
        ⟨acc ||| v <<< (7 * i), i + (varintEncBytes (fuel + 1) v).length, true, false⟩ := by
  induction fuel with
  | zero =>
    intro i acc v hi hv
    obtain rfl : i = 4 := hi
    have h : v < 0x80 := Nat.lt_trans hv (by decide : 2 ^ 4 < 128)
    exact varintDecFrom_varintEncBytes_of_lt avail rest 0 4 acc v (by decide) hv h
  | succ fuel ih =>
    intro i acc v hi hv
    by_cases h : v < 0x80
    · exact varintDecFrom_varintEncBytes_of_lt avail rest (fuel + 1) i acc v (by omega) hv h
    · have hrest : (v >>> 7).toNat < 2 ^ (32 - 7 * (i + 1)) := by
        rw [BitVec.toNat_ushiftRight, Nat.shiftRight_eq_div_pow]
        refine Nat.div_lt_of_lt_mul ?_
        rwa [← pow_add, show 7 + (32 - 7 * (i + 1)) = 32 - 7 * i by omega]
      have hvalue : acc ||| (v.setWidth 7).setWidth 32 <<< (7 * i) ||| (v >>> 7) <<< (7 * (i + 1)) =
          acc ||| v <<< (7 * i) := by
        rw [show 7 * (i + 1) = 7 + 7 * i by omega, BitVec.shiftLeft_add, BitVec.or_assoc,
          ← BitVec.shiftLeft_or_distrib, group_or_rest]
      have hkeeps : decide (i = 4) = false := by simp; omega
      rw [varintEncBytes_of_not_lt (fuel + 1) h, List.cons_append, varintDecFrom_contByte avail i (by omega), hkeeps,
        Bool.false_and, Bool.or_false, ih (i + 1) _ _ (by omega) hrest, hvalue, List.length_cons]
      congr 1
      omega

theorem varintDecFrom_varintEnc_append (avail : Nat) (u : U32) (rest : List Byte) :
    varintDecFrom avail 0 0 false (varintEnc u ++ rest) = ⟨u, (varintEnc u).length, true, false⟩ := by
  have := varintDecFrom_varintEncBytes avail rest 4 0 0 u rfl u.isLt
  simpa [varintEnc, Config.varintMaxGroups] using this

/-- Settles O2: the bytes that `avail` leaves are the encoding and then the first of what follows it, so the generalised round
trip applies; `00` and the non-minimal `80 00` decode to one value. -/
theorem varintDecodeOfEncode : Obligations.VarintDecodeOfEncode := by
  refine ⟨fun u rest avail hn _ => ?_, varintEnc_length, [0x00], [0x80, 0x00], by decide⟩
  have hsrc : (varintEnc u ++ rest).take avail = varintEnc u ++ rest.take (avail - (varintEnc u).length) := by
    rw [List.take_append, List.take_of_length_le hn]
  rw [varintDec, hsrc, varintDecFrom_varintEnc_append]

end Sys2Proof.Machine
end

section
/-! The COBS/R unit's round trip (41_cobsr.md R136). The encoder that patches its reserved slot builds the frame block by
block, as the form that holds a block back writes it (R123); the decoder takes such a frame back one block at a time. -/

namespace Sys2Proof.Machine

@[simp] theorem cobsMaxCode_toNat : Config.cobsMaxCode.toNat = 255 := rfl

theorem byte_ne_zero_of_lt {n : Nat} {c : Byte} (h : n < c.toNat) : c ≠ 0 := by
  rintro rfl
  exact Nat.not_lt_zero n h

theorem zero_not_mem_snoc {block : List Byte} {b : Byte} (hblock : 0 ∉ block) (hb : b ≠ 0) : 0 ∉ block ++ [b] := by
  rw [List.mem_append, List.mem_singleton]
  exact not_or.mpr ⟨hblock, hb.symm⟩

/-! What the encoder delivers (R121). -/

theorem cobsrEnc_eq_ok_iff (cap : Nat) (x f : List Byte) :
    cobsrEnc cap x = ⟨.ok, f⟩ ↔ cobsrFrame x = f ∧ (cobsrFrame x).length ≤ cap := by
  by_cases h : cap < (cobsrFrame x).length
  · simp [cobsrEnc, h]
  · simp [cobsrEnc, h, Nat.le_of_not_lt h]

/-! The encoder that patches its slot (R112): each byte takes registers of one shape to registers of that shape. -/

/-- The registers with finished bytes `done` and a pending block: the reserved slot stands between them, and the counter is
the block's length with its code byte. -/
def pendingRegs (done block : List Byte) (last : Byte) : EncRegs :=
  ⟨done ++ 0 :: block, done.length, block.length + 1, last⟩

theorem encInit_eq_pendingRegs : encInit = pendingRegs [] [] 0 := rfl

theorem closeBlock_pendingRegs (done block : List Byte) (last : Byte) :
    closeBlock (pendingRegs done block last) =
      pendingRegs (done ++ BitVec.ofNat 8 (block.length + 1) :: block) [] last := by
  simp [closeBlock, pendingRegs]

theorem encByte_zero (done block : List Byte) (last : Byte) :
    encByte (pendingRegs done block last) 0 =
      pendingRegs (done ++ BitVec.ofNat 8 (block.length + 1) :: block) [] 0 :=
  closeBlock_pendingRegs done block 0

theorem encByte_of_ne_zero (done block : List Byte) (last : Byte) {b : Byte} (hb : b ≠ 0) :
    encByte (pendingRegs done block last) b =
      if block.length + 2 = 255 then pendingRegs (done ++ Config.cobsMaxCode :: (block ++ [b])) [] b
      else pendingRegs done (block ++ [b]) b := by
  have hcopied : (⟨done ++ 0 :: block ++ [b], done.length, block.length + 1 + 1, b⟩ : EncRegs) =
      pendingRegs done (block ++ [b]) b := by simp [pendingRegs]
  by_cases hfull : block.length + 2 = 255
  · have hcode : BitVec.ofNat 8 ((block ++ [b]).length + 1) = Config.cobsMaxCode := by
      rw [List.length_append, List.length_singleton, hfull]
      rfl
    rw [if_pos hfull, ← hcode, ← closeBlock_pendingRegs done (block ++ [b]) b, ← hcopied]
    exact (if_neg hb).trans (if_pos hfull)
  · rw [if_neg hfull, ← hcopied]
    exact (if_neg hb).trans (if_neg hfull)

/-! What the block-holding form writes (R113 to R115), and that the two encoders agree (R123). -/

section
variable (block : List Byte) (last : Byte)

theorem encStream_nil_of_le (h : block.length + 1 ≤ last.toNat) : encStream block last [] = (last :: block).dropLast :=
  if_pos h

theorem encStream_nil_of_not_le (h : ¬ block.length + 1 ≤ last.toNat) :
    encStream block last [] = BitVec.ofNat 8 (block.length + 1) :: block :=
  if_neg h

theorem encStream_zero (x : List Byte) :
    encStream block last (0 :: x) = BitVec.ofNat 8 (block.length + 1) :: (block ++ encStream [] 0 x) := rfl

variable {b : Byte} (hb : b ≠ 0) (x : List Byte)
include hb

theorem encStream_full (hfull : block.length + 2 = 255) :
    encStream block last (b :: x) = Config.cobsMaxCode :: ((block ++ [b]) ++ encStream [] b x) :=
  (if_neg hb).trans (if_pos hfull)

theorem encStream_copy (hfull : block.length + 2 ≠ 255) :
    encStream block last (b :: x) = encStream (block ++ [b]) b x :=
  (if_neg hb).trans (if_neg hfull)

end

theorem encFinalise_pendingRegs (done block : List Byte) (last : Byte) :
    encFinalise (pendingRegs done block last) = done ++ encStream block last [] := by
  by_cases h : block.length + 1 ≤ last.toNat
  · simp [encFinalise, pendingRegs, encStream_nil_of_le block last h, h, List.dropLast_append_of_ne_nil]
  · simp [encFinalise, pendingRegs, encStream_nil_of_not_le block last h, h]

/-- From any pending block, the rest of the payload adds to the finished bytes what the block-holding form writes. -/
theorem encFinalise_foldl_encByte (x : List Byte) : ∀ (done block : List Byte) (last : Byte),
    encFinalise (x.foldl encByte (pendingRegs done block last)) = done ++ encStream block last x := by
  induction x with
  | nil => exact encFinalise_pendingRegs
  | cons b x ih =>
    intro done block last
    rw [List.foldl_cons]
    by_cases hb : b = 0
    · subst hb
      rw [encByte_zero, ih, encStream_zero, List.append_assoc, List.cons_append]
    · rw [encByte_of_ne_zero done block last hb]
      by_cases hfull : block.length + 2 = 255
      · rw [if_pos hfull, ih, encStream_full block last hb x hfull, List.append_assoc, List.cons_append]
      · rw [if_neg hfull, ih, encStream_copy block last hb x hfull]

/-- From the registers at the start, with nothing finished and an empty block, the whole frame is the block-holding form's. -/
theorem cobsrFrame_eq_encStream (x : List Byte) : cobsrFrame x = encStream [] 0 x := by
  rw [cobsrFrame, encInit_eq_pendingRegs, encFinalise_foldl_encByte, List.nil_append]

/-- Only the empty block after a full one can disappear (R117). -/
theorem encStream_ne_nil (x : List Byte) : ∀ (block : List Byte) (last : Byte),
    block ≠ [] ∨ last = 0 → encStream block last x ≠ [] := by
  induction x with
  | nil =>
    intro block last h
    by_cases hred : block.length + 1 ≤ last.toNat
    · have hblock : block ≠ [] := h.resolve_right (byte_ne_zero_of_lt (Nat.lt_of_succ_le hred))
      simp [encStream_nil_of_le block last hred, List.dropLast_cons_of_ne_nil hblock]
    · simp [encStream_nil_of_not_le block last hred]
  | cons b x ih =>
    intro block last _
    by_cases hb : b = 0
    · subst hb
      exact List.cons_ne_nil _ _
    · by_cases hfull : block.length + 2 = 255
      · simp [encStream_full block last hb x hfull]
      · rw [encStream_copy block last hb x hfull]
        exact ih (block ++ [b]) b (.inl (by simp))

/-! What the decoder does with one block of non-zero data that fits its buffer (R126 to R130). -/

theorem emit_of_lt {cap : Nat} {p : List Byte} (x : Byte) (h : p.length < cap) : emit cap p x = .ok (p ++ [x]) :=
  if_neg h.ne

theorem emitAll_of_nonzero (cap : Nat) (data : List Byte) : ∀ p : List Byte,
    0 ∉ data → p.length + data.length ≤ cap → emitAll cap p data = .ok (p ++ data) := by
  induction data with
  | nil => simp [emitAll]
  | cons x data ih =>
    intro p hdata hcap
    obtain ⟨hx, hdata⟩ : x ≠ 0 ∧ 0 ∉ data :=
      ⟨(List.ne_of_not_mem_cons hdata).symm, List.not_mem_of_not_mem_cons hdata⟩
    rw [List.length_cons] at hcap
    have hemit : emitData cap p x = .ok (p ++ [x]) := by rw [emitData, if_neg hx, emit_of_lt x (by omega)]
    simp only [emitAll, hemit]
    rw [ih (p ++ [x]) hdata (by simp; omega), List.append_assoc, List.singleton_append]

@[simp] theorem decBlocks_nil (cap fuel : Nat) (p : List Byte) : decBlocks cap fuel [] p = .ok p := by
  cases fuel <;> rfl

section
variable {cap : Nat} {c : Byte} {data p : List Byte} (fuel : Nat) (hdata : 0 ∉ data) (hcap : p.length + data.length ≤ cap)
include hdata hcap

/-- R127: a frame that ends before its last block does has that block's last byte in the place of the code. -/
theorem decBlocks_reduced_block (hc : data.length + 1 < c.toNat) (hroom : p.length + data.length < cap) :
    decBlocks cap (fuel + 1) (c :: data) p = .ok (p ++ data ++ [c]) := by
  have hc0 : c ≠ 0 := byte_ne_zero_of_lt hc
  have hcut : data.length < c.toNat - 1 := by omega
  simp only [decBlocks, if_neg hc0, if_pos hcut, emitAll_of_nonzero cap data p hdata hcap]
  exact emit_of_lt c (by simpa using hroom)

variable (hc : c.toNat = data.length + 1)
include hc

/-- R130: a whole block at the end of the frame ends the decoding, with no zero after it. -/
theorem decBlocks_last_block : decBlocks cap (fuel + 1) (c :: data) p = .ok (p ++ data) := by
  have hc0 : c ≠ 0 := byte_ne_zero_of_lt (Nat.lt_of_succ_le hc.ge)
  have hlen : c.toNat - 1 = data.length := by omega
  simp only [decBlocks, if_neg hc0, hlen, lt_irrefl, if_false, List.take_length, List.drop_length,
    emitAll_of_nonzero cap data p hdata hcap]

/-- R128, R129: a block before another is followed by a zero, unless its code is the largest. -/
theorem decBlocks_block_cons (next : Byte) (more : List Byte) :
    decBlocks cap (fuel + 1) (c :: (data ++ next :: more)) p =
      if c = Config.cobsMaxCode then decBlocks cap fuel (next :: more) (p ++ data)
      else (emit cap (p ++ data) 0).bind (decBlocks cap fuel (next :: more)) := by
  have hc0 : c ≠ 0 := byte_ne_zero_of_lt (Nat.lt_of_succ_le hc.ge)
  have hlen : c.toNat - 1 = data.length := by omega
  have hwhole : ¬ (data ++ next :: more).length < data.length := by simp
  simp only [decBlocks, if_neg hc0, hlen, if_neg hwhole, List.take_left, List.drop_left,
    emitAll_of_nonzero cap data p hdata hcap]
  cases emit cap (p ++ data) 0 <;> rfl

theorem decBlocks_full_block (hfull : c = Config.cobsMaxCode) (tail : List Byte) :
    decBlocks cap (fuel + 1) (c :: (data ++ tail)) p = decBlocks cap fuel tail (p ++ data) := by
  cases tail with
  | nil => rw [List.append_nil, decBlocks_last_block fuel hdata hcap hc, decBlocks_nil]
  | cons next more => rw [decBlocks_block_cons fuel hdata hcap hc, if_pos hfull]

theorem decBlocks_zero_block (hshort : c ≠ Config.cobsMaxCode) (hroom : p.length + data.length < cap) {tail : List Byte}
    (htail : tail ≠ []) :
    decBlocks cap (fuel + 1) (c :: (data ++ tail)) p = decBlocks cap fuel tail (p ++ data ++ [0]) := by
  obtain ⟨next, more, rfl⟩ := List.exists_cons_of_ne_nil htail
  rw [decBlocks_block_cons fuel hdata hcap hc, if_neg hshort, emit_of_lt 0 (by simpa using hroom)]
  rfl

end

/-! The round trip. -/

/-- What the block-holding encoder keeps of its pending block: no zero, not full, and `last` is its last byte. -/
structure PendingBlock (block : List Byte) (last : Byte) : Prop where
  nonzero : 0 ∉ block
  short : block.length + 1 < 255
  ends : block = [] ∨ ∃ init, block = init ++ [last]

theorem PendingBlock.empty (last : Byte) : PendingBlock [] last := ⟨by simp, by simp, .inl rfl⟩

theorem PendingBlock.snoc {block : List Byte} {last b : Byte} (h : PendingBlock block last) (hb : b ≠ 0)
    (hfull : block.length + 2 ≠ 255) : PendingBlock (block ++ [b]) b where
  nonzero := zero_not_mem_snoc h.nonzero hb
  short := by
    have := h.short
    simp
    omega
  ends := .inr ⟨block, rfl⟩

/-- The code byte of a block that is not full holds its length, and is not the largest code. -/
theorem PendingBlock.code_toNat {block : List Byte} {last : Byte} (h : PendingBlock block last) :
    (BitVec.ofNat 8 (block.length + 1)).toNat = block.length + 1 := by
  have := h.short
  rw [BitVec.toNat_ofNat]
  omega

theorem PendingBlock.code_ne_max {block : List Byte} {last : Byte} (h : PendingBlock block last) :
    BitVec.ofNat 8 (block.length + 1) ≠ Config.cobsMaxCode := by
  intro heq
  have := congrArg BitVec.toNat heq
  rw [h.code_toNat, cobsMaxCode_toNat] at this
  exact h.short.ne this

/-- The final block decodes whether the reduction drops its last byte or not (R115, R127). -/
theorem decBlocks_encStream_nil {cap fuel : Nat} {block p : List Byte} {last : Byte} (h : PendingBlock block last)
    (hcap : p.length + block.length ≤ cap) (hfuel : (encStream block last []).length ≤ fuel) :
    decBlocks cap fuel (encStream block last []) p = .ok (p ++ block) := by
  by_cases hred : block.length + 1 ≤ last.toNat
  · rw [encStream_nil_of_le block last hred] at hfuel ⊢
    obtain rfl | ⟨init, rfl⟩ := h.ends
    · simp
    · have hinit : 0 ∉ init := fun hmem => h.nonzero (List.mem_append_left _ hmem)
      simp only [List.length_append, List.length_singleton] at hcap hred
      rw [← List.cons_append, List.dropLast_concat] at hfuel ⊢
      obtain ⟨fuel, rfl⟩ := Nat.exists_eq_add_one.mpr (Nat.zero_lt_of_lt hfuel)
      rw [decBlocks_reduced_block fuel hinit (by omega) (by omega) (by omega), List.append_assoc]
  · rw [encStream_nil_of_not_le block last hred] at hfuel ⊢
    obtain ⟨fuel, rfl⟩ := Nat.exists_eq_add_one.mpr (Nat.zero_lt_of_lt hfuel)
    exact decBlocks_last_block fuel h.nonzero hcap h.code_toNat

/-- The generalised round trip: the decoder that has delivered `p` takes the pending block and the rest of the payload back
from what the encoder still writes. -/
theorem decBlocks_encStream (cap : Nat) (x : List Byte) : ∀ (fuel : Nat) (block p : List Byte) (last : Byte),
    PendingBlock block last → p.length + block.length + x.length ≤ cap → (encStream block last x).length ≤ fuel →
      decBlocks cap fuel (encStream block last x) p = .ok (p ++ block ++ x) := by
  induction x with
  | nil =>
    intro fuel block p last h hcap hfuel
    rw [List.append_nil]
    exact decBlocks_encStream_nil h hcap hfuel
  | cons b x ih =>
    intro fuel block p last h hcap hfuel
    rw [List.length_cons] at hcap
    by_cases hb : b = 0
    · subst hb
      rw [encStream_zero, List.length_cons, List.length_append] at hfuel
      rw [encStream_zero]
      obtain ⟨fuel, rfl⟩ := Nat.exists_eq_add_one.mpr (Nat.zero_lt_of_lt hfuel)
      rw [decBlocks_zero_block fuel h.nonzero (by omega) h.code_toNat h.code_ne_max (by omega)
        (encStream_ne_nil x [] 0 (.inr rfl)),
        ih fuel [] _ 0 (.empty 0) (by simp; omega) (by omega)]
      simp
    · by_cases hfull : block.length + 2 = 255
      · have hdata : 0 ∉ block ++ [b] := zero_not_mem_snoc h.nonzero hb
        rw [encStream_full block last hb x hfull] at hfuel ⊢
        rw [List.length_cons, List.length_append] at hfuel
        obtain ⟨fuel, rfl⟩ := Nat.exists_eq_add_one.mpr (Nat.zero_lt_of_lt hfuel)
        rw [decBlocks_full_block fuel hdata (by simp; omega) (by simp; omega) rfl,
          ih fuel [] _ b (.empty b) (by simp; omega) (by omega)]
        simp
      · rw [encStream_copy block last hb x hfull] at hfuel ⊢
        rw [ih fuel (block ++ [b]) p b (h.snoc hb hfull) (by simp; omega) hfuel]
        simp

theorem cobsrDec_cobsrFrame {cap : Nat} {x : List Byte} (hx : x.length ≤ cap) :
    cobsrDec cap (cobsrFrame x) = ⟨.ok, x⟩ := by
  rw [cobsrFrame_eq_encStream, cobsrDec, if_neg (encStream_ne_nil x [] 0 (.inr rfl)),
    decBlocks_encStream cap x _ [] [] 0 (.empty 0) (by simpa using hx) (Nat.le_refl _)]
  rfl

/-- Settles O5: the frame is what the block-holding encoder writes, and the decoder takes each of its blocks back. -/
theorem cobsrDecodeOfEncode : Obligations.CobsrDecodeOfEncode := by
  intro encCap decCap x f henc hx
  obtain ⟨rfl, -⟩ := (cobsrEnc_eq_ok_iff encCap x f).mp henc
  exact cobsrDec_cobsrFrame hx

/-- Settles O13: the empty payload leaves an empty block, whose code byte is its length 1. -/
theorem cobsrEmptyPayload : Obligations.CobsrEmptyPayload := by
  have hframe : cobsrFrame [] = [1] :=
    (cobsrFrame_eq_encStream []).trans (encStream_nil_of_not_le [] 0 (by decide))
  exact ⟨hframe, fun cap hcap => (cobsrEnc_eq_ok_iff cap [] [1]).mpr ⟨hframe, by simpa [hframe] using hcap⟩⟩

end Sys2Proof.Machine
end

section
/-! The complex report with an empty mask (43_vm_instructions.md R178). -/

namespace Sys2Proof.Machine

/-! The decoder: bit 7 alone sends an opcode to `decodeComplex`, and an empty mask leaves only the hold time to read
(30_encoding.md R61, R65). -/

@[simp] theorem maskOf_complexOpcode (m : Mask) : maskOf (complexOpcode m) = m := by simp [maskOf, complexOpcode]

theorem decode_complexOpcode (m : Mask) (rest : List Byte) : decode (complexOpcode m :: rest) = decodeComplex m rest := by
  have hclass : (complexOpcode m).getLsbD 7 = true := Laws.OpcodeFirst.complexOpcode_class m
  have hstart : complexOpcode m ≠ 0x0E := fun h => absurd (h ▸ hclass) (by decide)
  have hend : complexOpcode m ≠ 0x0F := fun h => absurd (h ▸ hclass) (by decide)
  rw [decode, decodeOpcode, if_neg hstart, if_neg hend, if_pos hclass, maskOf_complexOpcode]

theorem decodeWithVarint_of_ok (mk : Varint → Instr) {bs after : List Byte} {v : Varint}
    (h : takeVarint bs = .ok (v, after)) : decodeWithVarint mk bs = .ok (mk v, after) := by
  simp only [decodeWithVarint, h]

theorem decodeComplex_emptyMask (rest : List Byte) : decodeComplex 0 rest = decodeWithVarint (.cplx 0 []) rest := by
  have hnone : ¬ rest.length < popcount 0 := Nat.not_lt_zero rest.length
  rw [decodeComplex, if_neg hnone]
  rfl

/-! The instructions. -/

/-- With no bit set every field keeps what the report it starts from has, whatever the literals are. -/
theorem fillFields_emptyMask (fields : List Nat) (lits : List Byte) (r : Report) : fillFields 0 fields lits r = r := by
  induction fields with
  | nil => rfl
  | cons i fields ih =>
    have hclear : ¬ (0 : Mask).getLsbD i = true := by simp
    exact (if_neg hclear).trans ih

theorem complexFields_emptyMask (lits : List Byte) : complexFields 0 lits = Config.neutral :=
  fillFields_emptyMask _ lits Config.neutral

theorem exec_cplx (mask : Mask) (lits : List Byte) (hold : Varint) (s : State) :
    exec (.cplx mask lits hold) s = .next (complexReport mask lits hold s) := rfl

theorem exec_rpt10 (hold : Varint) (s : State) : exec (.rpt10 hold) s = .next (basicReport 0x10 hold s) := rfl

theorem complexReport_emptyMask_result (lits : List Byte) (hold : Varint) (s : State) :
    (complexReport 0 lits hold s).result = .tick (some Config.neutral) := by
  rw [complexReport, answer_result, complexFields_emptyMask]

/-- `PRESET(0x10)` is `NEUTRAL` (R174). -/
theorem basicReport_0x10_result (hold : Varint) (s : State) :
    (basicReport 0x10 hold s).result = .tick (some Config.neutral) := by
  rw [basicReport, answer_result, Config.preset, if_pos rfl]

/-- Settles O32: an empty mask sends the decoder straight to the hold time and leaves every field of `NEUTRAL` as it is. -/
theorem emptyMaskIsNeutral : Obligations.EmptyMaskIsNeutral := by
  have hdecode (bs : List Byte) (v : Varint) (rest : List Byte) (h : takeVarint bs = .ok (v, rest)) :
      decode (0x80 :: bs) = .ok (.cplx 0 [] v, rest) := by
    rw [← decodeWithVarint_of_ok (.cplx 0 []) h, ← decodeComplex_emptyMask]
    exact decode_complexOpcode 0 bs
  refine ⟨hdecode, fun hold s => ?_, hdecode [0x00] [0] [] rfl, rfl, fun s => ?_⟩
  · exact ⟨_, exec_cplx 0 [] hold s, complexReport_emptyMask_result [] hold s⟩
  · refine ⟨_, _, exec_cplx 0 [] [0] s, rfl, rfl, exec_rpt10 [0] s, ?_⟩
    rw [basicReport_0x10_result, complexReport_emptyMask_result]

end Sys2Proof.Machine
end

section
/-! The operations `Load`, `Clear`, `Start` and `Stop` (44_vm_operations.md R202 to R207): what each does in either run
state, and what a step that invokes it does. -/

namespace Sys2Proof.Machine

/-! A step with an operation waiting, and the tick that finds the program at its end. -/

theorem step_of_inbox_cons {s : State} {op : Operation} {ops : List Operation} (h : s.inbox = op :: ops) :
    step s = invoke op (withInbox ops s) := by
  obtain ⟨hnone, -⟩ | ⟨op', ops', hcons, hstep⟩ := step_cases s
  · exact absurd (h.symm.trans hnone) (List.cons_ne_nil op ops)
  · obtain ⟨rfl, rfl⟩ := List.cons.inj (h.symm.trans hcons)
    exact hstep

theorem step_tick {s : State} {t : U32} {ops : List Operation} (h : s.inbox = .tick t :: ops) :
    step s = tick t (withInbox ops s) :=
  step_of_inbox_cons h

theorem tick_of_program_end {t : U32} {s : State} (hrun : s.run = .executing)
    (hhold : holding t s.holdStart s.holdTime = false) (hend : s.wp ≤ s.pc) :
    tick t s = .next (answer none (resetRun (clearHold (latchClock t s)))) := by
  obtain ⟨hidle, -⟩ | ⟨-, hholding, -⟩ | ⟨-, -, -, htick⟩ | ⟨-, -, hbelow, -⟩ := tick_cases t s
  · simp [hrun] at hidle
  · simp [hhold] at hholding
  · exact htick
  · exact absurd hbelow (Nat.not_lt.mpr hend)

/-! `Load`: the two cases of R202, and the buffer after an append. -/

section
variable {cap : Nat} {bytes : List Byte} {s : State}

theorem load_of_rejected
    (h : s.run ≠ .idle ∨ instrSize bytes bytes.length ≠ some bytes.length ∨ cap < s.wp + bytes.length) :
    load cap bytes s = s := by
  refine (load_cases cap bytes s).resolve_left fun ⟨hidle, hsize, hfits, _⟩ => ?_
  obtain hrun | hill | hfull := h
  · exact hrun hidle
  · exact hill hsize
  · exact Nat.not_lt.mpr hfits hfull

variable (hidle : s.run = .idle) (hsize : instrSize bytes bytes.length = some bytes.length)
  (hfits : s.wp + bytes.length ≤ cap)
include hidle hsize hfits

theorem load_of_accepted :
    load cap bytes s = { s with buf := writeBytes s.buf s.wp bytes, wp := s.wp + bytes.length } :=
  if_pos ⟨hidle, hsize, hfits⟩

theorem readByte_load_appended {k : Nat} (hk : k < bytes.length) :
    readByte (load cap bytes s).buf (s.wp + k) = bytes[k]? := by
  have hin : s.wp ≤ s.wp + k ∧ s.wp + k < s.wp + bytes.length := by omega
  rw [load_of_accepted hidle hsize hfits, readByte_writeBytes, if_pos hin, Nat.add_sub_cancel_left]

theorem readByte_load_other {a : Nat} (ha : a < s.wp ∨ s.wp + bytes.length ≤ a) :
    readByte (load cap bytes s).buf a = readByte s.buf a := by
  have hout : ¬ (s.wp ≤ a ∧ a < s.wp + bytes.length) := by omega
  rw [load_of_accepted hidle hsize hfits, readByte_writeBytes, if_neg hout]

end

/-! `Clear`, `Start` and `Stop`: each acts in one run state and is a no-op in the other. -/

section
variable {s : State}

theorem clear_of_idle (h : s.run = .idle) : clear s = { s with wp := 0 } :=
  ((clear_cases s).resolve_right (by simp [h])).2

theorem clear_of_executing (h : s.run = .executing) : clear s = s :=
  ((clear_cases s).resolve_left (by simp [h])).2

theorem start_of_idle (h : s.run = .idle) : start s = { s with run := .executing } :=
  ((start_cases s).resolve_right (by simp [h])).2

theorem start_of_executing (h : s.run = .executing) : start s = s :=
  ((start_cases s).resolve_left (by simp [h])).2

theorem stop_of_executing (h : s.run = .executing) : stop s = resetRun s :=
  ((stop_cases s).resolve_right (by simp [h])).2

theorem stop_of_idle (h : s.run = .idle) : stop s = s :=
  ((stop_cases s).resolve_left (by simp [h])).2

variable {ops : List Operation}

theorem step_clear (h : s.inbox = .clear :: ops) : step s = .next (withResult .nothing (clear (withInbox ops s))) :=
  step_of_inbox_cons h

theorem step_start (h : s.inbox = .start :: ops) : step s = .next (withResult .nothing (start (withInbox ops s))) :=
  step_of_inbox_cons h

theorem step_stop (h : s.inbox = .stop :: ops) : step s = .next (withResult .nothing (stop (withInbox ops s))) :=
  step_of_inbox_cons h

theorem step_start_of_idle (h : s.inbox = .start :: ops) (hidle : s.run = .idle) :
    step s = .next { s with inbox := ops, result := .nothing, run := .executing } := by
  rw [step_start h, start_of_idle (s := withInbox ops s) hidle]
  rfl

end

/-! The statements. -/

/-- Settles O42: an append is one run of writes from `wp` up, so each address reads inside that run or outside it. -/
theorem loadAppendsOrRejects : Obligations.LoadAppendsOrRejects := by
  refine ⟨fun cap bytes s hidle hsize hfits => ⟨?_, ?_, ?_⟩, fun _ _ _ => load_of_rejected,
    fun _ _ _ hinbox => step_of_inbox_cons hinbox, fun cap hcap => ?_⟩
  · rw [load_of_accepted hidle hsize hfits]
  · exact fun _ => readByte_load_appended hidle hsize hfits
  · exact fun _ => readByte_load_other hidle hsize hfits
  · have hsize : instrSize [0x10, 0x00] 2 = some 2 := by decide
    have hread {k : Nat} := readByte_load_appended (s := State.reset) (k := k) rfl hsize hcap
    exact ⟨by rw [load_of_accepted rfl hsize hcap]; rfl, hread (k := 0) (by decide), hread (k := 1) (by decide)⟩

/-- Settles O43: taking the operation from the inbox leaves the run state, which decides what `Clear` does. -/
theorem clearSetsWpToZero : Obligations.ClearSetsWpToZero := by
  intro s ops hinbox
  rw [step_clear hinbox]
  constructor
  · intro hidle
    rw [clear_of_idle (s := withInbox ops s) hidle]
    rfl
  · intro hexec
    rw [clear_of_executing (s := withInbox ops s) hexec]
    rfl

/-- Settles O44: `Start` keeps the zeros of a machine at rest, so with `wp = 0` the first tick meets no hold and stands at
the end of the program. -/
theorem startSetsRun : Obligations.StartSetsRun := by
  intro s ops hinbox
  refine ⟨step_start_of_idle hinbox, fun hexec => ?_, fun hrest hidle => ?_, fun now rest hrest hidle hwp hops => ?_⟩
  · rw [step_start hinbox, start_of_executing (s := withInbox ops s) hexec]
    rfl
  · exact ⟨_, step_start_of_idle hinbox hidle, hrest hidle⟩
  · obtain ⟨-, -, hhold⟩ := hrest hidle
    have hnone : holding now s.holdStart s.holdTime = false := by rw [hhold, holding_zero]
    have hend : s.wp ≤ s.pc := hwp ▸ Nat.zero_le s.pc
    exact ⟨_, _, step_start_of_idle hinbox hidle, (step_tick hops).trans (tick_of_program_end rfl hnone hend), rfl, rfl⟩

/-- Settles O45: while Executing `Stop` is `ResetRun`, which `Stop` shares with the finishing tick. -/
theorem stopResetsTheRun : Obligations.StopResetsTheRun := by
  intro s ops hinbox
  rw [step_stop hinbox]
  constructor
  · intro hexec
    rw [stop_of_executing (s := withInbox ops s) hexec]
    rfl
  · intro hidle
    rw [stop_of_idle (s := withInbox ops s) hidle]
    rfl

end Sys2Proof.Machine
end

section
/-! The rest of the varint unit (40_varint.md R90 to R96): the encoder's length by value, the bytes of an operand and its
groups, the value of a list of groups, and what the decoding loop answers on any bytes. -/

namespace Sys2Proof.Machine

/-! The encoder's length (R92). -/

theorem varintEncBytes_length_succ (fuel : Nat) (v : U32) :
    (varintEncBytes (fuel + 1) v).length = if v.toNat < 128 then 1 else (varintEncBytes fuel (v >>> 7)).length + 1 := by
  by_cases h : v < 0x80
  · have hv : v.toNat < 128 := h
    rw [varintEncBytes_of_lt fuel h, if_pos hv, List.length_singleton]
  · have hv : ¬ v.toNat < 128 := h
    rw [varintEncBytes_of_not_lt fuel h, if_neg hv, List.length_cons]

/-- Settles O1: each byte but the last takes seven bits of the value, so the length is read off the value's size. -/
theorem varintEncLengthByValue : Obligations.VarintEncLengthByValue := by
  intro v
  have hv : v.toNat < 2 ^ 32 := v.isLt
  have hnone (w : U32) : (varintEncBytes 0 w).length = 0 := rfl
  simp only [varintEnc, Config.varintMaxGroups, varintEncBytes_length_succ, hnone, BitVec.toNat_ushiftRight,
    Nat.shiftRight_eq_div_pow]
  split_ifs <;> omega

/-! The bytes of an operand are the bytes it is read from (30_encoding.md R62, R71). -/

theorem takeGroups_cons (fuel : Nat) (b : Byte) (rest : List Byte) :
    takeGroups (fuel + 1) (b :: rest) =
      if continues b then
        match takeGroups fuel rest with
        | .ok (gs, after) => .ok (groupOf b :: gs, after)
        | .error e => .error e
      else .ok ([groupOf b], rest) := rfl

theorem contByte_groupOf {b : Byte} (h : continues b = true) : contByte (groupOf b) = b := by
  revert b
  decide

theorem lastByte_groupOf {b : Byte} (h : continues b = false) : lastByte (groupOf b) = b := by
  revert b
  decide

theorem encodeVarint_cons {gs : Varint} (g : Group) (h : gs ≠ []) :
    encodeVarint (g :: gs) = contByte g :: encodeVarint gs := by
  obtain ⟨g', gs, rfl⟩ := List.exists_cons_of_ne_nil h
  rfl

theorem takeGroups_encodeVarint (rest : List Byte) (v : Varint) : ∀ fuel : Nat, 1 ≤ v.length → v.length ≤ fuel →
    takeGroups fuel (encodeVarint v ++ rest) = .ok (v, rest) := by
  induction v with
  | nil => exact fun _ h => absurd h (by decide)
  | cons g gs ih =>
    intro fuel _ hfuel
    obtain ⟨fuel, rfl⟩ := Nat.exists_eq_add_one.mpr (Nat.lt_of_lt_of_le (Nat.succ_pos _) hfuel)
    by_cases hgs : gs = []
    · subst hgs
      simp [encodeVarint, takeGroups_cons]
    · have hlen : 1 ≤ gs.length := List.length_pos_iff.mpr hgs
      have hrest : takeGroups fuel (encodeVarint gs ++ rest) = .ok (gs, rest) := ih fuel hlen (Nat.le_of_succ_le_succ hfuel)
      rw [encodeVarint_cons g hgs, List.cons_append, takeGroups_cons, hrest]
      simp

theorem encodeVarint_of_takeGroups (fuel : Nat) : ∀ (bs : List Byte) (v : Varint) (rest : List Byte),
    takeGroups fuel bs = .ok (v, rest) → encodeVarint v ++ rest = bs := by
  induction fuel with
  | zero => exact fun _ _ _ h => nomatch h
  | succ fuel ih =>
    intro bs v rest h
    cases bs with
    | nil => exact nomatch h
    | cons b bs =>
      rw [takeGroups_cons] at h
      split at h
      · rename_i hb
        split at h
        · rename_i gs after hgs
          obtain ⟨rfl, rfl⟩ : groupOf b :: gs = v ∧ after = rest := by simpa using h
          have hne : gs ≠ [] := List.length_pos_iff.mp (takeGroups_ok fuel bs gs after hgs).1
          rw [encodeVarint_cons _ hne, contByte_groupOf hb, List.cons_append, ih bs gs after hgs]
        · exact nomatch h
      · rename_i hb
        obtain ⟨rfl, rfl⟩ : [groupOf b] = v ∧ bs = rest := by simpa using h
        rw [encodeVarint, lastByte_groupOf (Bool.eq_false_iff.mpr hb), List.singleton_append]

theorem varintWf_iff (v : Varint) : Varint.wf v = true ↔ 1 ≤ v.length ∧ v.length ≤ 5 := by
  rw [Varint.wf, Bool.and_eq_true, decide_eq_true_eq, decide_eq_true_eq]
  rfl

/-- An operand is read exactly where its bytes stand. -/
theorem takeVarint_eq_ok_iff (bs : List Byte) (v : Varint) (rest : List Byte) :
    takeVarint bs = .ok (v, rest) ↔ Varint.wf v = true ∧ encodeVarint v ++ rest = bs := by
  rw [varintWf_iff]
  constructor
  · intro h
    obtain ⟨hpos, hle, -⟩ := takeGroups_ok _ bs v rest h
    exact ⟨⟨hpos, hle⟩, encodeVarint_of_takeGroups _ bs v rest h⟩
  · rintro ⟨⟨hpos, hle⟩, rfl⟩
    exact takeGroups_encodeVarint rest v 5 hpos hle

theorem takeVarint_encodeVarint {v : Varint} (hv : Varint.wf v = true) (rest : List Byte) :
    takeVarint (encodeVarint v ++ rest) = .ok (v, rest) :=
  (takeVarint_eq_ok_iff _ v rest).mpr ⟨hv, rfl⟩

/-- Bytes that hold no varint either end inside one or start with `fuel` continuation bytes (30_encoding.md R71). -/
theorem takeGroups_error (fuel : Nat) : ∀ (bs : List Byte) (e : DecodeError), takeGroups fuel bs = .error e →
    e = .fiveContinuations ∨ e = .truncatedVarint ∧ bs.length < fuel := by
  induction fuel with
  | zero =>
    intro bs e h
    exact .inl (Except.error.inj h).symm
  | succ fuel ih =>
    intro bs e h
    cases bs with
    | nil => exact .inr ⟨(Except.error.inj h).symm, Nat.succ_pos fuel⟩
    | cons b bs =>
      rw [takeGroups_cons] at h
      split at h
      · split at h
        · exact nomatch h
        · rename_i e' he'
          obtain rfl := Except.error.inj h
          exact (ih bs e' he').imp_right fun ⟨he, hlt⟩ => ⟨he, Nat.succ_lt_succ hlt⟩
      · exact nomatch h

/-! The value of an operand (R90, R95). -/

theorem varintValue_cons_toNat (g : Group) (gs : Varint) :
    (varintValue (g :: gs)).toNat = (g.toNat + 128 * (varintValue gs).toNat) % 2 ^ 32 := by
  have hdisjoint : g.setWidth 32 &&& (varintValue gs <<< 7) = 0#32 := by
    ext k hk
    by_cases h : k < 7
    · simp [h]
    · simp [h, BitVec.getLsbD_of_ge g k (Nat.le_of_not_lt h)]
  have hg : g.toNat < 2 ^ 7 := g.isLt
  rw [varintValue, ← BitVec.add_eq_or_of_and_eq_zero _ _ hdisjoint, BitVec.toNat_add, BitVec.toNat_setWidth,
    BitVec.toNat_shiftLeft, Nat.shiftLeft_eq]
  omega

/-- Settles O4: each group adds its digit below the value of the groups after it. -/
theorem varintValueIsBase128 : Obligations.VarintValueIsBase128 := by
  intro v
  induction v with
  | nil => rfl
  | cons g gs ih =>
    rw [varintValue_cons_toNat, ih, List.foldr_cons]
    omega

/-! The decoding loop on any bytes (R93 to R95): it reads the groups an operand is made of. -/

/-- The loop at byte `i`, with `fuel` of the five bytes to go: where the bytes hold a varint it takes the varint's value in
above the groups it has read; a fifth group is the one at index `fuel - 1` of those still to come. -/
theorem varintDecFrom_of_takeGroups (avail fuel : Nat) : ∀ (i : Nat) (acc : U32) (o : Bool) (bs : List Byte) (v : Varint)
    (rest : List Byte), i + fuel = 5 → takeGroups fuel bs = .ok (v, rest) →
      varintDecFrom avail i acc o bs =
        ⟨acc ||| varintValue v <<< (7 * i), i + v.length, true,
          o || (v[4 - i]?).any fun g => decide (16 ≤ g.toNat)⟩ := by
  induction fuel with
  | zero => exact fun _ _ _ _ _ _ _ h => nomatch h
  | succ fuel ih =>
    intro i acc o bs v rest hi h
    cases bs with
    | nil => exact nomatch h
    | cons b bs =>
      rw [takeGroups_cons] at h
      rw [varintDecFrom_cons avail i (by omega)]
      split at h
      · rename_i hb
        split at h
        · rename_i gs after hgs
          obtain ⟨rfl, rfl⟩ : groupOf b :: gs = v ∧ after = rest := by simpa using h
          rw [if_pos hb, ih (i + 1) _ _ bs gs after (by omega) hgs, varintValue]
          have hvalue : acc ||| (groupOf b).setWidth 32 <<< (7 * i) ||| varintValue gs <<< (7 * (i + 1)) =
              acc ||| ((groupOf b).setWidth 32 ||| varintValue gs <<< 7) <<< (7 * i) := by
            rw [BitVec.shiftLeft_or_distrib, ← BitVec.shiftLeft_add, BitVec.or_assoc, Nat.mul_succ, Nat.add_comm 7]
          obtain ⟨hpos, hle, -⟩ := takeGroups_ok fuel bs gs after hgs
          have hearly : decide (i = 4) = false := decide_eq_false (by omega)
          obtain ⟨k, hk⟩ : ∃ k, 4 - i = k + 1 := ⟨3 - i, by omega⟩
          have hk' : 4 - (i + 1) = k := by omega
          rw [hvalue, hearly, hk, hk', List.getElem?_cons_succ, List.length_cons, Bool.false_and, Bool.or_false,
            Nat.add_assoc, Nat.add_comm 1]
        · exact nomatch h
      · rename_i hb
        obtain ⟨rfl, rfl⟩ : [groupOf b] = v ∧ bs = rest := by simpa using h
        have hvalue : varintValue [groupOf b] = (groupOf b).setWidth 32 := by simp [varintValue]
        rw [if_neg hb, hvalue, List.length_singleton]
        by_cases h4 : i = 4
        · subst h4
          simp
        · obtain ⟨k, hk⟩ : ∃ k, 4 - i = k + 1 := ⟨3 - i, by omega⟩
          simp [h4, hk]

theorem varintDecFrom_of_takeGroups_error (avail fuel : Nat) : ∀ (i : Nat) (acc : U32) (o : Bool) (bs : List Byte)
    (e : DecodeError), i + fuel = 5 → takeGroups fuel bs = .error e →
      (varintDecFrom avail i acc o bs).complete = false ∧ (varintDecFrom avail i acc o bs).consumed = avail := by
  induction fuel with
  | zero =>
    intro i acc o bs e hi _
    obtain rfl : i = 5 := hi
    cases bs <;> exact ⟨rfl, rfl⟩
  | succ fuel ih =>
    intro i acc o bs e hi h
    cases bs with
    | nil => exact ⟨rfl, rfl⟩
    | cons b bs =>
      rw [takeGroups_cons] at h
      rw [varintDecFrom_cons avail i (by omega)]
      split at h
      · rename_i hb
        split at h
        · exact nomatch h
        · rename_i e' he'
          rw [if_pos hb]
          exact ih (i + 1) _ _ bs e' (by omega) he'
      · exact nomatch h

theorem varintDec_all (bs : List Byte) : varintDec bs bs.length = varintDecFrom bs.length 0 0 false bs := by
  rw [varintDec, List.take_length]

theorem varintDec_of_takeVarint {bs rest : List Byte} {v : Varint} (h : takeVarint bs = .ok (v, rest)) :
    varintDec bs bs.length = ⟨varintValue v, v.length, true, (v[4]?).any fun g => decide (16 ≤ g.toNat)⟩ := by
  rw [varintDec_all, varintDecFrom_of_takeGroups bs.length 5 0 0 false bs v rest rfl h]
  simp

theorem varintDec_of_takeVarint_error {bs : List Byte} {e : DecodeError} (h : takeVarint bs = .error e) :
    (varintDec bs bs.length).complete = false ∧ (varintDec bs bs.length).consumed = bs.length := by
  rw [varintDec_all]
  exact varintDecFrom_of_takeGroups_error bs.length 5 0 0 false bs e rfl h

/-- Settles O3: from its first byte on the loop follows `takeVarint`. -/
theorem varintDecOnAnyBytes : Obligations.VarintDecOnAnyBytes :=
  fun _ => ⟨fun _ _ => varintDec_of_takeVarint, fun _ => varintDec_of_takeVarint_error⟩

end Sys2Proof.Machine
end

section
/-! The opcode map, row by row (30_encoding.md R61, R75): each instruction is LOOPSTART, LOOPEND, CPLX, a row of `reportRows`
or a row of `invalidRows`, and so is each opcode byte. What the encoder, the operand check and `exec` say of a row is said
here once; decoding and encoding then agree shape by shape. -/

namespace Sys2Proof.Machine

/-! The rows, each for its opcode. -/

theorem reportRows_opcodes :
    reportRows.map Prod.fst = (List.range 39).map fun k => BitVec.ofNat 8 (0x10 + k) := rfl

theorem invalidRows_opcodes : invalidRows.map Prod.fst =
    (List.range 14).map (BitVec.ofNat 8) ++ (List.range 73).map fun k => BitVec.ofNat 8 (0x37 + k) := rfl

/-- What a row of `reportRows` says of its opcode. -/
structure ReportRow (row : Byte × (Varint → Instr)) : Prop where
  encode_eq : ∀ hold, encode (row.2 hold) = row.1 :: encodeVarint hold
  wf_eq : ∀ hold, (row.2 hold).wf = Varint.wf hold
  exec_eq : ∀ hold s, exec (row.2 hold) s = .next (basicReport row.1 hold s)

/-- What a row of `invalidRows` says of its opcode. -/
structure InvalidRow (row : Byte × Instr) : Prop where
  encode_eq : encode row.2 = [row.1]
  wf_eq : row.2.wf = true
  exec_eq : ∀ s, exec row.2 s = .next (invalidOpcode s)

theorem reportRow_spec : ∀ row ∈ reportRows, ReportRow row := by
  simp only [reportRows, reportRows1, reportRows2, reportRows3, List.forall_mem_append, List.forall_mem_cons,
    List.not_mem_nil, IsEmpty.forall_iff, implies_true, and_true]
  and_intros <;> exact ⟨fun _ => rfl, fun _ => rfl, fun _ _ => rfl⟩

theorem invalidRow_spec : ∀ row ∈ invalidRows, InvalidRow row := by
  simp only [invalidRows, invalidRows1, invalidRows2, invalidRows3, invalidRows4, invalidRows5, invalidRows6,
    List.forall_mem_append, List.forall_mem_cons, List.not_mem_nil, IsEmpty.forall_iff, implies_true, and_true]
  and_intros <;> exact ⟨rfl, rfl, fun _ => rfl⟩

theorem reportRow_opcode : ∀ row ∈ reportRows, 0x10 ≤ row.1.toNat ∧ row.1.toNat ≤ 0x36 := by
  intro row hrow
  have hmem : row.1 ∈ reportRows.map Prod.fst := List.mem_map_of_mem hrow
  rw [reportRows_opcodes] at hmem
  obtain ⟨k, hk, hop⟩ := List.mem_map.mp hmem
  rw [List.mem_range] at hk
  rw [← hop, BitVec.toNat_ofNat]
  omega

theorem invalidRow_opcode : ∀ row ∈ invalidRows, row.1.toNat ≤ 0x0D ∨ 0x37 ≤ row.1.toNat ∧ row.1.toNat ≤ 0x7F := by
  intro row hrow
  have hmem : row.1 ∈ invalidRows.map Prod.fst := List.mem_map_of_mem hrow
  rw [invalidRows_opcodes] at hmem
  obtain hmem | hmem := List.mem_append.mp hmem <;>
  · obtain ⟨k, hk, hop⟩ := List.mem_map.mp hmem
    rw [List.mem_range] at hk
    rw [← hop, BitVec.toNat_ofNat]
    omega

theorem exists_reportRow {op : Byte} (h : 0x10 ≤ op.toNat ∧ op.toNat ≤ 0x36) : ∃ mk, (op, mk) ∈ reportRows := by
  have hmem : op ∈ reportRows.map Prod.fst := by
    rw [reportRows_opcodes]
    refine List.mem_map.mpr ⟨op.toNat - 0x10, List.mem_range.mpr (by omega), ?_⟩
    rw [Nat.add_sub_cancel' h.1, BitVec.ofNat_toNat, BitVec.setWidth_eq]
  obtain ⟨⟨_, mk⟩, hrow, rfl⟩ := List.mem_map.mp hmem
  exact ⟨mk, hrow⟩

theorem exists_invalidRow {op : Byte} (h : op.toNat ≤ 0x0D ∨ 0x37 ≤ op.toNat ∧ op.toNat ≤ 0x7F) :
    ∃ i, (op, i) ∈ invalidRows := by
  have hmem : op ∈ invalidRows.map Prod.fst := by
    rw [invalidRows_opcodes]
    obtain hlow | ⟨hlow, hhigh⟩ := h
    · refine List.mem_append_left _ (List.mem_map.mpr ⟨op.toNat, List.mem_range.mpr (by omega), ?_⟩)
      rw [BitVec.ofNat_toNat, BitVec.setWidth_eq]
    · refine List.mem_append_right _ (List.mem_map.mpr ⟨op.toNat - 0x37, List.mem_range.mpr (by omega), ?_⟩)
      rw [Nat.add_sub_cancel' hlow, BitVec.ofNat_toNat, BitVec.setWidth_eq]
  obtain ⟨⟨_, i⟩, hrow, rfl⟩ := List.mem_map.mp hmem
  exact ⟨i, hrow⟩

theorem lookup_of_mem {α : Type} {rows : List (Byte × α)} (hnodup : (rows.map Prod.fst).Nodup) {op : Byte} {x : α}
    (h : (op, x) ∈ rows) : rows.lookup op = some x := by
  induction rows with
  | nil => simp at h
  | cons row rows ih =>
    obtain ⟨hne, hnodup⟩ := List.nodup_cons.mp hnodup
    obtain rfl | h := List.mem_cons.mp h
    · exact List.lookup_cons_self
    · have hop : (op == row.1) = false :=
        beq_false_of_ne fun heq => hne (heq ▸ List.mem_map_of_mem (f := Prod.fst) h)
      rw [List.lookup_cons, hop]
      exact ih hnodup h

/-! The two ways to tell the shapes apart: by constructor and by opcode. -/

theorem exists_reportRow_of_getElem? {i : Instr} {row : Byte × (Varint → Instr)} {hold : Varint}
    (hrow : reportRows[((encode i).headD 0).toNat - 0x10]? = some row) (hi : i = row.2 hold) :
    ∃ row ∈ reportRows, ∃ hold, i = row.2 hold :=
  ⟨row, List.mem_of_getElem? hrow, hold, hi⟩

/-- Where an invalid opcode stands in `invalidRows`. -/
def invalidIndex (op : Byte) : Nat := if op.toNat < 0x0E then op.toNat else op.toNat - 0x29

theorem exists_invalidRow_of_getElem? {i : Instr} {row : Byte × Instr}
    (hrow : invalidRows[invalidIndex ((encode i).headD 0)]? = some row) (hi : i = row.2) : ∃ row ∈ invalidRows, i = row.2 :=
  ⟨row, List.mem_of_getElem? hrow, hi⟩

/-- Each constructor; where it stands in the rows is read off its opcode. -/
theorem instr_cases (i : Instr) :
    (∃ count, i = .loopstart count) ∨ i = .loopend ∨ (∃ mask lits hold, i = .cplx mask lits hold) ∨
    (∃ row ∈ reportRows, ∃ hold, i = row.2 hold) ∨ (∃ row ∈ invalidRows, i = row.2) := by
  cases i
  case loopstart count => exact .inl ⟨count, rfl⟩
  case loopend => exact .inr (.inl rfl)
  case cplx mask lits hold => exact .inr (.inr (.inl ⟨mask, lits, hold, rfl⟩))
  all_goals first
    | exact .inr (.inr (.inr (.inr (exists_invalidRow_of_getElem? rfl rfl))))
    | exact .inr (.inr (.inr (.inl (exists_reportRow_of_getElem? rfl rfl))))

theorem classBit_iff (op : Byte) : op.getLsbD 7 = true ↔ 0x80 ≤ op.toNat := by
  revert op
  decide

theorem complexOpcode_maskOf {op : Byte} (h : op.getLsbD 7 = true) : complexOpcode (maskOf op) = op := by
  ext k hk
  interval_cases k <;> simp_all [complexOpcode, maskOf]

/-- Each opcode byte: the map is total. -/
theorem opcode_cases (op : Byte) :
    op = 0x0E ∨ op = 0x0F ∨ (∃ mask, op = complexOpcode mask) ∨
    (∃ mk, (op, mk) ∈ reportRows) ∨ (∃ i, (op, i) ∈ invalidRows) := by
  by_cases hclass : op.getLsbD 7 = true
  · exact .inr (.inr (.inl ⟨maskOf op, (complexOpcode_maskOf hclass).symm⟩))
  rw [classBit_iff] at hclass
  by_cases hreport : 0x10 ≤ op.toNat ∧ op.toNat ≤ 0x36
  · exact .inr (.inr (.inr (.inl (exists_reportRow hreport))))
  by_cases hinvalid : op.toNat ≤ 0x0D ∨ 0x37 ≤ op.toNat ∧ op.toNat ≤ 0x7F
  · exact .inr (.inr (.inr (.inr (exists_invalidRow hinvalid))))
  by_cases hstart : op.toNat = 0x0E
  · exact .inl (BitVec.eq_of_toNat_eq hstart)
  · have hend : op.toNat = 0x0F := by omega
    exact .inr (.inl (BitVec.eq_of_toNat_eq hend))

/-! What the decoder does with an opcode of each shape. -/

theorem not_loop_nor_complex {op : Byte} (hloop : op.toNat ≠ 0x0E ∧ op.toNat ≠ 0x0F) (hlow : op.toNat < 0x80) :
    op ≠ 0x0E ∧ op ≠ 0x0F ∧ ¬ op.getLsbD 7 = true :=
  ⟨fun h => hloop.1 (h ▸ rfl), fun h => hloop.2 (h ▸ rfl), by rw [classBit_iff]; omega⟩

theorem decode_loopstart (rest : List Byte) : decode (0x0E :: rest) = decodeWithVarint .loopstart rest := rfl

theorem decode_loopend (rest : List Byte) : decode (0x0F :: rest) = .ok (.loopend, rest) := rfl

theorem decode_reportRow {op : Byte} {mk : Varint → Instr} (h : (op, mk) ∈ reportRows) (rest : List Byte) :
    decode (op :: rest) = decodeWithVarint mk rest := by
  obtain ⟨hlow, hhigh⟩ : 0x10 ≤ op.toNat ∧ op.toNat ≤ 0x36 := reportRow_opcode _ h
  have hnodup : (reportRows.map Prod.fst).Nodup := by decide
  obtain ⟨hstart, hend, hclass⟩ := not_loop_nor_complex (op := op) (by omega) (by omega)
  rw [decode, decodeOpcode, if_neg hstart, if_neg hend, if_neg hclass]
  simp only [lookup_of_mem hnodup h]

theorem decode_invalidRow {op : Byte} {i : Instr} (h : (op, i) ∈ invalidRows) (rest : List Byte) :
    decode (op :: rest) = .ok (i, rest) := by
  have hop : op.toNat ≤ 0x0D ∨ 0x37 ≤ op.toNat ∧ op.toNat ≤ 0x7F := invalidRow_opcode _ h
  have hnodup : (invalidRows.map Prod.fst).Nodup := by decide
  have hnone : reportRows.lookup op = none := by
    refine List.lookup_eq_none_iff.mpr fun row hrow => bne_iff_ne.mpr ?_
    rintro rfl
    have := reportRow_opcode row hrow
    omega
  obtain ⟨hstart, hend, hclass⟩ := not_loop_nor_complex (op := op) (by omega) (by omega)
  rw [decode, decodeOpcode, if_neg hstart, if_neg hend, if_neg hclass]
  simp only [hnone, lookup_of_mem hnodup h]

theorem decodeWithVarint_eq_ok_iff (mk : Varint → Instr) (bs : List Byte) (i : Instr) (rest : List Byte) :
    decodeWithVarint mk bs = .ok (i, rest) ↔ ∃ v, Varint.wf v = true ∧ i = mk v ∧ encodeVarint v ++ rest = bs := by
  constructor
  · intro h
    cases hv : takeVarint bs with
    | error e => simp [decodeWithVarint, hv] at h
    | ok read =>
      obtain ⟨v, after⟩ := read
      obtain ⟨rfl, rfl⟩ : mk v = i ∧ after = rest := by simpa [decodeWithVarint_of_ok mk hv] using h
      obtain ⟨hwf, hbs⟩ := (takeVarint_eq_ok_iff bs v after).mp hv
      exact ⟨v, hwf, rfl, hbs⟩
  · rintro ⟨v, hwf, rfl, rfl⟩
    exact decodeWithVarint_of_ok mk (takeVarint_encodeVarint hwf rest)

theorem decodeComplex_eq_ok_iff (mask : Mask) (bs : List Byte) (i : Instr) (rest : List Byte) :
    decodeComplex mask bs = .ok (i, rest) ↔
      ∃ lits hold, lits.length = popcount mask ∧ Varint.wf hold = true ∧ i = .cplx mask lits hold ∧
        lits ++ (encodeVarint hold ++ rest) = bs := by
  constructor
  · intro h
    by_cases hshort : bs.length < popcount mask
    · simp [decodeComplex, hshort] at h
    · cases hv : takeVarint (bs.drop (popcount mask)) with
      | error e => simp [decodeComplex, hshort, hv] at h
      | ok read =>
        obtain ⟨hold, after⟩ := read
        obtain ⟨rfl, rfl⟩ : .cplx mask (bs.take (popcount mask)) hold = i ∧ after = rest := by
          simpa [decodeComplex, hshort, hv] using h
        obtain ⟨hwf, hbs⟩ := (takeVarint_eq_ok_iff _ hold after).mp hv
        refine ⟨_, hold, List.length_take_of_le (Nat.le_of_not_lt hshort), hwf, rfl, ?_⟩
        rw [hbs, List.take_append_drop]
  · rintro ⟨lits, hold, hlits, hwf, rfl, rfl⟩
    have hlong : ¬ (lits ++ (encodeVarint hold ++ rest)).length < popcount mask := by simp [← hlits]
    rw [decodeComplex, if_neg hlong, ← hlits, List.drop_left, List.take_left]
    simp only [takeVarint_encodeVarint hwf]

/-! Decoding and encoding agree. -/

theorem wf_cplx_iff (mask : Mask) (lits : List Byte) (hold : Varint) :
    (Instr.cplx mask lits hold).wf = true ↔ lits.length = popcount mask ∧ Varint.wf hold = true := by
  rw [Instr.wf, Bool.and_eq_true, decide_eq_true_eq]

theorem decode_encode {i : Instr} (hwf : i.wf = true) (rest : List Byte) : decode (encode i ++ rest) = .ok (i, rest) := by
  obtain ⟨count, rfl⟩ | rfl | ⟨mask, lits, hold, rfl⟩ | ⟨row, hrow, hold, rfl⟩ | ⟨row, hrow, rfl⟩ := instr_cases i
  · exact (decodeWithVarint_eq_ok_iff _ _ _ _).mpr ⟨count, hwf, rfl, rfl⟩
  · exact decode_loopend rest
  · obtain ⟨hlits, hhold⟩ := (wf_cplx_iff mask lits hold).mp hwf
    refine (decode_complexOpcode mask _).trans ((decodeComplex_eq_ok_iff _ _ _ _).mpr ?_)
    exact ⟨lits, hold, hlits, hhold, rfl, (List.append_assoc _ _ _).symm⟩
  · have hspec := reportRow_spec row hrow
    rw [hspec.wf_eq] at hwf
    rw [hspec.encode_eq, List.cons_append, decode_reportRow hrow]
    exact (decodeWithVarint_eq_ok_iff _ _ _ _).mpr ⟨hold, hwf, rfl, rfl⟩
  · rw [(invalidRow_spec row hrow).encode_eq, List.singleton_append]
    exact decode_invalidRow hrow rest

theorem encode_of_decode {bs rest : List Byte} {i : Instr} (h : decode bs = .ok (i, rest)) :
    i.wf = true ∧ encode i ++ rest = bs := by
  cases bs with
  | nil => exact nomatch h
  | cons op bs =>
    obtain rfl | rfl | ⟨mask, rfl⟩ | ⟨mk, hrow⟩ | ⟨j, hrow⟩ := opcode_cases op
    · obtain ⟨count, hwf, rfl, rfl⟩ := (decodeWithVarint_eq_ok_iff _ _ _ _).mp h
      exact ⟨hwf, rfl⟩
    · obtain ⟨rfl, rfl⟩ := Prod.mk.inj (Except.ok.inj h)
      exact ⟨rfl, rfl⟩
    · rw [decode_complexOpcode] at h
      obtain ⟨lits, hold, hlits, hhold, rfl, rfl⟩ := (decodeComplex_eq_ok_iff _ _ _ _).mp h
      exact ⟨(wf_cplx_iff mask lits hold).mpr ⟨hlits, hhold⟩, by simp [encode]⟩
    · rw [decode_reportRow hrow] at h
      obtain ⟨hold, hwf, rfl, rfl⟩ := (decodeWithVarint_eq_ok_iff _ _ _ _).mp h
      have hspec := reportRow_spec _ hrow
      exact ⟨(hspec.wf_eq hold).trans hwf, by rw [hspec.encode_eq, List.cons_append]⟩
    · obtain ⟨rfl, rfl⟩ : j = i ∧ bs = rest := by simpa [decode_invalidRow hrow] using h
      have hspec := invalidRow_spec _ hrow
      exact ⟨hspec.wf_eq, by rw [hspec.encode_eq, List.singleton_append]⟩

/-- Settles O20: each shape's operands are read back from where they stand. -/
theorem decodeOfEncode : Obligations.DecodeOfEncode := fun _ rest hwf => decode_encode hwf rest

/-- Settles O21: each opcode's decoder takes operands that are well formed and stand where they were read. -/
theorem encodeOfDecode : Obligations.EncodeOfDecode := fun _ _ _ => encode_of_decode

/-- Settles O23: the decoder computes each. -/
theorem sampleWordsDecode : Obligations.SampleWordsDecode := ⟨rfl, rfl, rfl, rfl, rfl, rfl, rfl⟩

/-! Which opcodes `Load` may accept (R75). -/

theorem loadable_of_encode {i : Instr} {op : Byte} {operands : List Byte} (h : encode i = op :: operands) :
    i.loadable = validOpcode op := by
  simp only [Instr.loadable, h]

theorem validOpcode_complexOpcode (mask : Mask) : validOpcode (complexOpcode mask) = true := by
  simp [validOpcode, Laws.OpcodeFirst.complexOpcode_class]

theorem validOpcode_reportRow {op : Byte} {mk : Varint → Instr} (h : (op, mk) ∈ reportRows) : validOpcode op = true := by
  obtain ⟨hlow, hhigh⟩ : 0x10 ≤ op.toNat ∧ op.toNat ≤ 0x36 := reportRow_opcode _ h
  simp [validOpcode, hlow, hhigh]

theorem validOpcode_invalidRow {op : Byte} {i : Instr} (h : (op, i) ∈ invalidRows) : validOpcode op = false := by
  have hop : op.toNat ≤ 0x0D ∨ 0x37 ≤ op.toNat ∧ op.toNat ≤ 0x7F := invalidRow_opcode _ h
  obtain ⟨hstart, hend, hclass⟩ := not_loop_nor_complex (op := op) (by omega) (by omega)
  have hreport : ¬ (0x10 ≤ op.toNat ∧ op.toNat ≤ 0x36) := by omega
  rw [validOpcode, decide_eq_false hstart, decide_eq_false hend, Bool.eq_false_iff.mpr hclass]
  simpa using hreport

theorem encode_ne_nil (i : Instr) : encode i ≠ [] := by
  obtain ⟨count, rfl⟩ | rfl | ⟨mask, lits, hold, rfl⟩ | ⟨row, hrow, hold, rfl⟩ | ⟨row, hrow, rfl⟩ := instr_cases i
  · exact List.cons_ne_nil _ _
  · exact List.cons_ne_nil _ _
  · exact List.cons_ne_nil _ _
  · rw [(reportRow_spec row hrow).encode_eq]
    exact List.cons_ne_nil _ _
  · rw [(invalidRow_spec row hrow).encode_eq]
    exact List.cons_ne_nil _ _

/-- The decoder reads an instruction whose first byte is the opcode it was given. -/
theorem encode_cons_of_decode {op : Byte} {rest after : List Byte} {i : Instr} (h : decode (op :: rest) = .ok (i, after)) :
    ∃ operands, encode i = op :: operands := by
  obtain ⟨-, hbytes⟩ := encode_of_decode h
  obtain ⟨op', operands, hop⟩ := List.exists_cons_of_ne_nil (encode_ne_nil i)
  rw [hop, List.cons_append] at hbytes
  exact ⟨operands, hop.trans (congrArg (· :: operands) (List.cons.inj hbytes).1)⟩

/-! Why the decoder rejects: five continuation bytes, or the bytes end before the longest instruction does (R71, R72). -/

theorem popcountBelow_le (mask : Mask) (n : Nat) : popcountBelow mask n ≤ n := by
  induction n with
  | zero => exact Nat.le_refl 0
  | succ n ih =>
    rw [popcountBelow]
    split <;> omega

theorem decodeWithVarint_error {mk : Varint → Instr} {bs : List Byte} {e : DecodeError}
    (h : decodeWithVarint mk bs = .error e) : e = .fiveContinuations ∨ e = .truncatedVarint ∧ bs.length < 5 := by
  cases hv : takeVarint bs with
  | ok read => simp [decodeWithVarint, hv] at h
  | error e' =>
    obtain rfl : e' = e := by simpa [decodeWithVarint, hv] using h
    exact takeGroups_error 5 bs e' hv

theorem decodeComplex_error {mask : Mask} {bs : List Byte} {e : DecodeError} (h : decodeComplex mask bs = .error e) :
    e = .fiveContinuations ∨ (e = .missingLiterals ∨ e = .truncatedVarint) ∧ bs.length < popcount mask + 5 := by
  by_cases hshort : bs.length < popcount mask
  · obtain rfl : .missingLiterals = e := by simpa [decodeComplex, hshort] using h
    exact .inr ⟨.inl rfl, by omega⟩
  cases hv : takeVarint (bs.drop (popcount mask)) with
  | ok read => simp [decodeComplex, hshort, hv] at h
  | error e' =>
    obtain rfl : e' = e := by simpa [decodeComplex, hshort, hv] using h
    refine (takeGroups_error 5 _ e' hv).imp_right fun ⟨he, hlt⟩ => ⟨.inr he, ?_⟩
    rw [List.length_drop] at hlt
    omega

theorem decode_error {bs : List Byte} {e : DecodeError} (h : decode bs = .error e) :
    e = .fiveContinuations ∨ e ≠ .unlistedOpcode ∧ bs.length < Config.maxInstrLen := by
  have hmax : Config.maxInstrLen = 13 := rfl
  cases bs with
  | nil =>
    obtain rfl : .noOpcode = e := Except.error.inj h
    exact .inr ⟨nofun, by decide⟩
  | cons op bs =>
    rw [List.length_cons, hmax]
    obtain rfl | rfl | ⟨mask, rfl⟩ | ⟨mk, hrow⟩ | ⟨i, hrow⟩ := opcode_cases op
    · refine (decodeWithVarint_error h).imp_right fun ⟨he, hlt⟩ => ⟨he ▸ nofun, by omega⟩
    · exact nomatch h
    · rw [decode_complexOpcode] at h
      have hpop : popcount mask ≤ 7 := popcountBelow_le mask 7
      refine (decodeComplex_error h).imp_right fun ⟨he, hlt⟩ => ⟨?_, by omega⟩
      obtain rfl | rfl := he <;> exact nofun
    · rw [decode_reportRow hrow] at h
      refine (decodeWithVarint_error h).imp_right fun ⟨he, hlt⟩ => ⟨he ▸ nofun, by omega⟩
    · rw [decode_invalidRow hrow] at h
      exact nomatch h

/-- Settles O22: every opcode has a shape, and only the rows of `invalidRows` hold invalid ones. -/
theorem opcodeMapIsTotal : Obligations.OpcodeMapIsTotal := by
  intro op rest
  refine ⟨fun h => ?_, fun hop => ?_, fun hop i after h => ?_⟩
  · obtain he | ⟨he, -⟩ := decode_error h
    · exact nomatch he
    · exact he rfl
  · obtain rfl | rfl | ⟨mask, rfl⟩ | ⟨mk, hrow⟩ | ⟨i, hrow⟩ := opcode_cases op
    · exact absurd hop (by decide)
    · exact absurd hop (by decide)
    · rw [validOpcode_complexOpcode] at hop
      exact nomatch hop
    · rw [validOpcode_reportRow hrow] at hop
      exact nomatch hop
    · have hencode : encode i = [op] := (invalidRow_spec _ hrow).encode_eq
      exact ⟨i, decode_invalidRow hrow rest, hencode, (loadable_of_encode hencode).trans hop⟩
  · obtain ⟨operands, hencode⟩ := encode_cons_of_decode h
    exact (loadable_of_encode hencode).trans hop

/-! `InstrSize` measures what the decoder reads (R71). -/

theorem varintLenFrom_of_takeGroups (fuel : Nat) : ∀ (bs : List Byte) (v : Varint) (rest : List Byte),
    takeGroups fuel bs = .ok (v, rest) → varintLenFrom fuel bs = some v.length := by
  induction fuel with
  | zero => exact fun _ _ _ h => nomatch h
  | succ fuel ih =>
    intro bs v rest h
    cases bs with
    | nil => exact nomatch h
    | cons b bs =>
      rw [takeGroups_cons] at h
      rw [varintLenFrom]
      split at h
      · rename_i hb
        split at h
        · rename_i gs after hgs
          obtain ⟨rfl, rfl⟩ : groupOf b :: gs = v ∧ after = rest := by simpa using h
          rw [if_pos hb, ih bs gs after hgs]
          rfl
        · exact nomatch h
      · rename_i hb
        obtain ⟨rfl, rfl⟩ : [groupOf b] = v ∧ bs = rest := by simpa using h
        exact if_neg hb

theorem varintLenFrom_of_takeGroups_error (fuel : Nat) : ∀ (bs : List Byte) (e : DecodeError),
    takeGroups fuel bs = .error e → varintLenFrom fuel bs = none := by
  induction fuel with
  | zero => exact fun _ _ _ => rfl
  | succ fuel ih =>
    intro bs e h
    cases bs with
    | nil => rfl
    | cons b bs =>
      rw [takeGroups_cons] at h
      rw [varintLenFrom]
      split at h
      · rename_i hb
        split at h
        · exact nomatch h
        · rename_i e' he'
          rw [if_pos hb, ih bs e' he']
          rfl
      · exact nomatch h

theorem instrSize_cons (op : Byte) (rest : List Byte) :
    instrSize (op :: rest) (op :: rest).length =
      if op = 0x0E then sizeWithVarint (op :: rest) 1 (op :: rest).length
      else if op = 0x0F then some 1
      else if 0x10 ≤ op.toNat ∧ op.toNat ≤ 0x36 then sizeWithVarint (op :: rest) 1 (op :: rest).length
      else if op.getLsbD 7 then sizeWithVarint (op :: rest) (1 + popcount (maskOf op)) (op :: rest).length
      else none := by
  rw [instrSize, List.take_length]

/-- The size of an instruction with `k` literal bytes between its opcode and its varint. -/
theorem sizeWithVarint_eq_some_iff (op : Byte) (rest : List Byte) (k n : Nat) :
    sizeWithVarint (op :: rest) (1 + k) (op :: rest).length = some n ↔
      k ≤ rest.length ∧ ∃ v after, takeVarint (rest.drop k) = .ok (v, after) ∧ n = 1 + k + v.length := by
  rw [sizeWithVarint, varintLen, List.take_length, List.length_cons, Nat.add_comm 1 k, List.drop_succ_cons]
  by_cases hshort : rest.length < k
  · have hlt : rest.length + 1 < k + 1 := by omega
    simp [hlt, hshort]
  · have hlt : ¬ rest.length + 1 < k + 1 := by omega
    rw [if_neg hlt]
    cases hv : takeVarint (rest.drop k) with
    | ok read => simp [varintLenFrom_of_takeGroups _ _ _ _ hv, Nat.le_of_not_lt hshort, eq_comm, Prod.ext_iff]
    | error e => simp [varintLenFrom_of_takeGroups_error _ _ _ hv]

/-- `InstrSize` on an opcode whose only operand is a varint. -/
theorem instrSize_iff_of_decodeWithVarint {op : Byte} {mk : Varint → Instr} {rest : List Byte}
    (hdecode : decode (op :: rest) = decodeWithVarint mk rest) (hencode : ∀ v, encode (mk v) = op :: encodeVarint v)
    (hvalid : validOpcode op = true)
    (hsize : instrSize (op :: rest) (op :: rest).length = sizeWithVarint (op :: rest) (1 + 0) (op :: rest).length) (n : Nat) :
    instrSize (op :: rest) (op :: rest).length = some n ↔
      ∃ i after, decode (op :: rest) = .ok (i, after) ∧ i.loadable = true ∧ n = (encode i).length := by
  rw [hsize, sizeWithVarint_eq_some_iff, hdecode, List.drop_zero]
  constructor
  · rintro ⟨-, v, after, hv, rfl⟩
    refine ⟨mk v, after, decodeWithVarint_of_ok mk hv, (loadable_of_encode (hencode v)).trans hvalid, ?_⟩
    rw [hencode, List.length_cons, encodeVarint_length, Nat.add_comm]
  · rintro ⟨i, after, h, -, rfl⟩
    obtain ⟨v, hwf, rfl, hbytes⟩ := (decodeWithVarint_eq_ok_iff _ _ _ _).mp h
    refine ⟨Nat.zero_le _, v, after, (takeVarint_eq_ok_iff _ _ _).mpr ⟨hwf, hbytes⟩, ?_⟩
    rw [hencode, List.length_cons, encodeVarint_length, Nat.add_comm]

theorem encode_cplx_length (mask : Mask) (lits : List Byte) (hold : Varint) :
    (encode (.cplx mask lits hold)).length = 1 + lits.length + hold.length := by
  rw [encode, List.length_cons, List.length_append, encodeVarint_length]
  omega

theorem instrSize_complexOpcode_iff (mask : Mask) (rest : List Byte) (n : Nat) :
    instrSize (complexOpcode mask :: rest) (complexOpcode mask :: rest).length = some n ↔
      ∃ i after, decode (complexOpcode mask :: rest) = .ok (i, after) ∧ i.loadable = true ∧ n = (encode i).length := by
  have hclass : (complexOpcode mask).getLsbD 7 = true := Laws.OpcodeFirst.complexOpcode_class mask
  have hop : 0x80 ≤ (complexOpcode mask).toNat := (classBit_iff _).mp hclass
  have hstart : complexOpcode mask ≠ 0x0E := fun h => absurd (h ▸ hclass) (by decide)
  have hend : complexOpcode mask ≠ 0x0F := fun h => absurd (h ▸ hclass) (by decide)
  have hreport : ¬ (0x10 ≤ (complexOpcode mask).toNat ∧ (complexOpcode mask).toNat ≤ 0x36) := by omega
  have hvalid (lits : List Byte) (hold : Varint) : (Instr.cplx mask lits hold).loadable = true :=
    (loadable_of_encode rfl).trans (validOpcode_complexOpcode mask)
  rw [instrSize_cons, if_neg hstart, if_neg hend, if_neg hreport, if_pos hclass, maskOf_complexOpcode,
    sizeWithVarint_eq_some_iff, decode_complexOpcode]
  constructor
  · rintro ⟨hlong, hold, after, hv, rfl⟩
    obtain ⟨hwf, hbytes⟩ := (takeVarint_eq_ok_iff _ _ _).mp hv
    have hlits : (rest.take (popcount mask)).length = popcount mask := List.length_take_of_le hlong
    refine ⟨.cplx mask (rest.take (popcount mask)) hold, after, ?_, hvalid _ hold, ?_⟩
    · exact (decodeComplex_eq_ok_iff _ _ _ _).mpr ⟨_, hold, hlits, hwf, rfl, by rw [hbytes, List.take_append_drop]⟩
    · rw [encode_cplx_length, hlits]
  · rintro ⟨i, after, h, -, rfl⟩
    obtain ⟨lits, hold, hlits, hwf, rfl, rfl⟩ := (decodeComplex_eq_ok_iff _ _ _ _).mp h
    refine ⟨by simp [← hlits], hold, after, ?_, by rw [encode_cplx_length, hlits]⟩
    rw [← hlits, List.drop_left, takeVarint_encodeVarint hwf]

/-- Settles O24: both sides read the operands the opcode calls for. -/
theorem instrSizeIsDecodedLength : Obligations.InstrSizeIsDecodedLength := by
  intro bs n
  cases bs with
  | nil => exact ⟨nofun, fun ⟨_, _, h, _⟩ => nomatch h⟩
  | cons op rest =>
    obtain rfl | rfl | ⟨mask, rfl⟩ | ⟨mk, hrow⟩ | ⟨i, hrow⟩ := opcode_cases op
    · exact instrSize_iff_of_decodeWithVarint (decode_loopstart rest) (fun _ => rfl) rfl (instrSize_cons _ _) n
    · rw [instrSize_cons]
      refine ⟨fun h => ⟨.loopend, rest, rfl, rfl, (Option.some.inj h).symm⟩, ?_⟩
      rintro ⟨i, after, h, -, rfl⟩
      obtain ⟨rfl, rfl⟩ := Prod.mk.inj (Except.ok.inj h)
      rfl
    · exact instrSize_complexOpcode_iff mask rest n
    · have hop : 0x10 ≤ op.toNat ∧ op.toNat ≤ 0x36 := reportRow_opcode _ hrow
      obtain ⟨hstart, hend, -⟩ := not_loop_nor_complex (op := op) (by omega) (by omega)
      refine instrSize_iff_of_decodeWithVarint (decode_reportRow hrow rest) (reportRow_spec _ hrow).encode_eq
        (validOpcode_reportRow hrow) ?_ n
      rw [instrSize_cons, if_neg hstart, if_neg hend, if_pos hop]
    · have hop : op.toNat ≤ 0x0D ∨ 0x37 ≤ op.toNat ∧ op.toNat ≤ 0x7F := invalidRow_opcode _ hrow
      obtain ⟨hstart, hend, hclass⟩ := not_loop_nor_complex (op := op) (by omega) (by omega)
      have hreport : ¬ (0x10 ≤ op.toNat ∧ op.toNat ≤ 0x36) := by omega
      have hinvalid : i.loadable = false :=
        (loadable_of_encode (invalidRow_spec _ hrow).encode_eq).trans (validOpcode_invalidRow hrow)
      rw [instrSize_cons, if_neg hstart, if_neg hend, if_neg hreport, if_neg hclass]
      refine ⟨nofun, ?_⟩
      rintro ⟨j, after, h, hloadable, -⟩
      rw [decode_invalidRow hrow] at h
      obtain ⟨rfl, rfl⟩ := Prod.mk.inj (Except.ok.inj h)
      rw [hinvalid] at hloadable
      exact nomatch hloadable

theorem encode_loopstart_length (count : Varint) : (encode (.loopstart count)).length = 1 + count.length := by
  rw [encode, List.length_cons, encodeVarint_length, Nat.add_comm]

theorem encode_reportRow_length {row : Byte × (Varint → Instr)} (h : row ∈ reportRows) (hold : Varint) :
    (encode (row.2 hold)).length = 1 + hold.length := by
  rw [(reportRow_spec row h).encode_eq, List.length_cons, encodeVarint_length, Nat.add_comm]

theorem encode_invalidRow_length {row : Byte × Instr} (h : row ∈ invalidRows) : (encode row.2).length = 1 := by
  rw [(invalidRow_spec row h).encode_eq, List.length_singleton]

theorem encode_length_pos (i : Instr) : 1 ≤ (encode i).length := List.length_pos_iff.mpr (encode_ne_nil i)

theorem encode_length_le {i : Instr} (hwf : i.wf = true) : (encode i).length ≤ Config.maxInstrLen := by
  have hmax : Config.maxInstrLen = 13 := rfl
  obtain ⟨count, rfl⟩ | rfl | ⟨mask, lits, hold, rfl⟩ | ⟨row, hrow, hold, rfl⟩ | ⟨row, hrow, rfl⟩ := instr_cases i
  · have hcount := (varintWf_iff count).mp hwf
    rw [encode_loopstart_length]
    omega
  · decide
  · obtain ⟨hlits, hhold⟩ := (wf_cplx_iff mask lits hold).mp hwf
    have hpop : popcount mask ≤ 7 := popcountBelow_le mask 7
    have hhold := (varintWf_iff hold).mp hhold
    rw [encode_cplx_length]
    omega
  · have hhold := (varintWf_iff hold).mp ((reportRow_spec row hrow).wf_eq hold ▸ hwf)
    rw [encode_reportRow_length hrow]
    omega
  · rw [encode_invalidRow_length hrow]
    decide

/-- A varint operand has at least one byte, so a loadable instruction of one byte has none. -/
theorem eq_loopend_of_length {i : Instr} (hwf : i.wf = true) (hload : i.loadable = true)
    (hlen : (encode i).length = 1) : i = .loopend := by
  obtain ⟨count, rfl⟩ | rfl | ⟨mask, lits, hold, rfl⟩ | ⟨row, hrow, hold, rfl⟩ | ⟨row, hrow, rfl⟩ := instr_cases i
  · have hcount := (varintWf_iff count).mp hwf
    rw [encode_loopstart_length] at hlen
    omega
  · rfl
  · have hhold := (varintWf_iff hold).mp ((wf_cplx_iff mask lits hold).mp hwf).2
    rw [encode_cplx_length] at hlen
    omega
  · have hhold := (varintWf_iff hold).mp ((reportRow_spec row hrow).wf_eq hold ▸ hwf)
    rw [encode_reportRow_length hrow] at hlen
    omega
  · rw [loadable_of_encode (invalidRow_spec row hrow).encode_eq, validOpcode_invalidRow hrow] at hload
    exact nomatch hload

/-- Settles O25: a varint has 1 to 5 bytes, a mask at most 7 bits, and CPLX with every field given has 13 bytes. -/
theorem instructionLengths : Obligations.InstructionLengths := by
  refine ⟨fun i hwf => ⟨encode_length_pos i, encode_length_le hwf⟩, fun i hwf hload => ⟨eq_loopend_of_length hwf hload, ?_⟩,
    .cplx 0x7F [0, 0, 0, 0, 0, 0, 0] [0, 0, 0, 0, 0], by decide⟩
  rintro rfl
  rfl

end Sys2Proof.Machine
end

section
/-! The rest of the COBS/R unit (41_cobsr.md). The frame's shape is read off the block-holding encoder, block by block; the
decoder's answers are read off the byte-at-a-time decoder, with which it agrees but for which error is named. -/

namespace Sys2Proof.Machine

/-! The encoder (R113 to R122). -/

/-- Settles O9: the equality the round trip rests on. -/
theorem cobsrStreamingEncoderAgrees : Obligations.CobsrStreamingEncoderAgrees := cobsrFrame_eq_encStream

/-- Non-zero bytes that do not fill the block join it; which byte came last matters only at the end of the payload. -/
theorem encStream_append_cons (a : List Byte) (b : Byte) (x : List Byte) : ∀ (block : List Byte) (last : Byte),
    0 ∉ a → block.length + a.length < 254 → encStream block last (a ++ b :: x) = encStream (block ++ a) 0 (b :: x) := by
  induction a with
  | nil =>
    intro block last _ _
    rw [List.nil_append, List.append_nil]
    rfl
  | cons c a ih =>
    intro block last ha hlen
    rw [List.length_cons] at hlen
    have hc : c ≠ 0 := (List.ne_of_not_mem_cons ha).symm
    rw [List.cons_append, encStream_copy block last hc _ (by omega),
      ih (block ++ [c]) c (List.not_mem_of_not_mem_cons ha) (by simp; omega), List.append_assoc, List.singleton_append]

theorem zero_not_mem_of_forall {a : List Byte} (h : ∀ x ∈ a, x ≠ 0) : 0 ∉ a := fun hmem => h 0 hmem rfl

/-- Settles O10: the zero closes the block the bytes before it have filled. -/
theorem cobsrZeroClosesBlock : Obligations.CobsrZeroClosesBlock := by
  intro a b ha hlen
  have hjoin := encStream_append_cons a 0 b [] 0 (zero_not_mem_of_forall ha) (by simpa using hlen)
  rw [cobsrFrame_eq_encStream, cobsrFrame_eq_encStream, hjoin, List.nil_append, encStream_zero, List.cons_append]

/-- After a full block nothing follows, or a payload encoded afresh. -/
theorem encStream_after_full_block {z : Byte} (hz : z ≠ 0) (b : List Byte) :
    encStream [] z b = if b = [] then [] else encStream [] 0 b := by
  cases b with
  | nil =>
    have hpos : ([] : List Byte).length + 1 ≤ z.toNat := Nat.pos_of_ne_zero fun h => hz (BitVec.eq_of_toNat_eq h)
    rw [encStream_nil_of_le [] z hpos]
    rfl
  | cons c b => rfl

/-- Settles O11: the 254th byte fills the block and closes it. -/
theorem cobsrFullBlock : Obligations.CobsrFullBlock := by
  intro a b ha hlen
  obtain rfl | ⟨init, z, rfl⟩ := List.eq_nil_or_concat' a
  · exact absurd hlen (by decide)
  have hnonzero : 0 ∉ init ++ [z] := zero_not_mem_of_forall ha
  have hz : z ≠ 0 := ha z (by simp)
  have hinit : init.length = 253 := by simpa using hlen
  have hjoin := encStream_append_cons init z b [] 0 (fun h => hnonzero (List.mem_append_left _ h)) (by simp; omega)
  rw [cobsrFrame_eq_encStream, cobsrFrame_eq_encStream, List.append_assoc, List.singleton_append, hjoin,
    List.nil_append, encStream_full init 0 hz b (by omega), encStream_after_full_block hz]
  rfl

/-- Settles O12: the final block's last byte takes the code byte's place when it is at least the code. -/
theorem cobsrFinalBlock : Obligations.CobsrFinalBlock := by
  intro a z ha hz hlen
  have hjoin := encStream_append_cons a z [] [] 0 (zero_not_mem_of_forall ha) (by simp; omega)
  have hcode : (a ++ [z]).length + 1 = a.length + 2 := by simp
  rw [cobsrFrame_eq_encStream, hjoin, List.nil_append, encStream_copy a 0 hz [] (by omega)]
  by_cases hred : a.length + 2 ≤ z.toNat
  · rw [if_pos hred, encStream_nil_of_le _ _ (hcode ▸ hred), ← List.cons_append, List.dropLast_concat]
  · rw [if_neg hred, encStream_nil_of_not_le _ _ (hcode ▸ hred), hcode]

theorem PendingBlock.code_ne_zero {block : List Byte} {last : Byte} (h : PendingBlock block last) :
    BitVec.ofNat 8 (block.length + 1) ≠ 0 :=
  byte_ne_zero_of_lt (n := 0) (by rw [h.code_toNat]; exact Nat.succ_pos _)

/-- The block-holding encoder writes no zero. -/
theorem zero_not_mem_encStream (x : List Byte) : ∀ (block : List Byte) (last : Byte), PendingBlock block last →
    0 ∉ encStream block last x := by
  induction x with
  | nil =>
    intro block last h
    by_cases hred : block.length + 1 ≤ last.toNat
    · rw [encStream_nil_of_le block last hred]
      intro hmem
      obtain heq | hblock := List.mem_cons.mp (List.mem_of_mem_dropLast hmem)
      · exact byte_ne_zero_of_lt (Nat.lt_of_succ_le hred) heq.symm
      · exact h.nonzero hblock
    · rw [encStream_nil_of_not_le block last hred, List.mem_cons]
      exact not_or.mpr ⟨h.code_ne_zero.symm, h.nonzero⟩
  | cons b x ih =>
    intro block last h
    by_cases hb : b = 0
    · subst hb
      rw [encStream_zero, List.mem_cons, List.mem_append]
      exact not_or.mpr ⟨h.code_ne_zero.symm,
        not_or.mpr ⟨h.nonzero, ih [] 0 (.empty 0)⟩⟩
    · by_cases hfull : block.length + 2 = 255
      · rw [encStream_full block last hb x hfull, List.mem_cons, List.mem_append]
        exact not_or.mpr ⟨by decide, not_or.mpr ⟨zero_not_mem_snoc h.nonzero hb, ih [] b (.empty b)⟩⟩
      · rw [encStream_copy block last hb x hfull]
        exact ih (block ++ [b]) b (h.snoc hb hfull)

/-- Settles O6: codes are at least 1 and the data of a block has no zero. -/
theorem cobsrFrameHasNoZero : Obligations.CobsrFrameHasNoZero := by
  intro cap x f henc
  obtain ⟨rfl, -⟩ := (cobsrEnc_eq_ok_iff cap x f).mp henc
  rw [cobsrFrame_eq_encStream]
  exact ⟨encStream_ne_nil x [] 0 (.inr rfl),
    fun b hb heq => zero_not_mem_encStream x [] 0 (.empty 0) (heq ▸ hb)⟩

/-- The bounds with a pending block of fewer than 254 bytes: one code byte at most for each 254 bytes, and one more. -/
theorem encStream_length (x : List Byte) : ∀ (block : List Byte) (last : Byte), block.length < 254 →
    block.length + x.length ≤ (encStream block last x).length ∧
      (encStream block last x).length ≤ block.length + x.length + (block.length + x.length) / 254 + 1 := by
  induction x with
  | nil =>
    intro block last h
    by_cases hred : block.length + 1 ≤ last.toNat
    · rw [encStream_nil_of_le block last hred]
      simp
      omega
    · rw [encStream_nil_of_not_le block last hred]
      simp
  | cons b x ih =>
    intro block last h
    by_cases hb : b = 0
    · subst hb
      have hrest := ih [] 0 (by decide)
      simp only [encStream_zero, List.length_cons, List.length_append, List.length_nil] at hrest ⊢
      omega
    · by_cases hfull : block.length + 2 = 255
      · have hrest := ih [] b (by decide)
        simp only [encStream_full block last hb x hfull, List.length_cons, List.length_append, List.length_nil] at hrest ⊢
        omega
      · have hrest := ih (block ++ [b]) b (by simp; omega)
        simp only [encStream_copy block last hb x hfull, List.length_cons, List.length_append, List.length_nil] at hrest ⊢
        omega

theorem cobsrFrame_length (x : List Byte) :
    x.length ≤ (cobsrFrame x).length ∧ (cobsrFrame x).length ≤ x.length + x.length / 254 + 1 := by
  simpa [cobsrFrame_eq_encStream] using encStream_length x [] 0 (by decide)

/-- Settles O7: the bounds with no block pending. -/
theorem cobsrFrameLengthBounds : Obligations.CobsrFrameLengthBounds :=
  ⟨fun x _ => cobsrFrame_length x, by rw [cobsrEmptyPayload.1]; rfl⟩

/-- Settles O8: the capacity is tested against the finished frame, whose length is bounded. -/
theorem cobsrEncFailsClosed : Obligations.CobsrEncFailsClosed := by
  refine ⟨fun cap x hfits => (cobsrEnc_eq_ok_iff cap x _).mpr ⟨rfl, hfits⟩, fun cap x hover => if_pos hover,
    fun cap x hcap => ?_⟩
  rw [(cobsrEnc_eq_ok_iff cap x _).mpr ⟨rfl, (cobsrFrame_length x).2.trans hcap⟩]

/-! The byte-at-a-time decoder (R131 to R135), one byte at a time. -/

theorem emit_cases (cap : Nat) (p : List Byte) (x : Byte) :
    (p.length = cap ∧ emit cap p x = .error .overflow) ∨ (p.length ≠ cap ∧ emit cap p x = .ok (p ++ [x])) := by
  by_cases h : p.length = cap
  · exact .inl ⟨h, if_pos h⟩
  · exact .inr ⟨h, if_neg h⟩

theorem decByte_zero (cap : Nat) (d : DecRegs) : decByte cap d 0 = .error .malformed := if_pos rfl

section
variable (cap : Nat) (d : DecRegs) {b : Byte} (hb : b ≠ 0)
include hb

theorem decByte_data (hdue : d.due ≠ 0) :
    decByte cap d b = (emit cap d.payload b).map fun p => { d with payload := p, due := d.due - 1 } := by
  rw [decByte, if_neg hb, if_neg hdue]
  cases emit cap d.payload b <;> rfl

theorem decByte_code (hdue : d.due = 0) (h : d.first = true ∨ d.code = Config.cobsMaxCode) :
    decByte cap d b = .ok ⟨b.toNat - 1, b, false, d.payload⟩ := by
  have hnone : ¬ (d.first = false ∧ d.code ≠ Config.cobsMaxCode) := by
    obtain h | h := h <;> simp [h]
  rw [decByte, if_neg hb, if_pos hdue, if_neg hnone]

theorem decByte_code_after_zero (hdue : d.due = 0) (hfirst : d.first = false) (hcode : d.code ≠ Config.cobsMaxCode) :
    decByte cap d b = (emit cap d.payload 0).map fun p => ⟨b.toNat - 1, b, false, p⟩ := by
  rw [decByte, if_neg hb, if_pos hdue, if_pos ⟨hfirst, hcode⟩]
  cases emit cap d.payload 0 <;> rfl

end

/-- A non-zero byte after the first emits nothing, or one byte that fits, or overflows. -/
theorem decByte_cases {cap : Nat} {d : DecRegs} {b : Byte} (hfirst : d.first = false) (hb : b ≠ 0) :
    (∃ d', decByte cap d b = .ok d' ∧ d'.first = false ∧ d'.payload = d.payload) ∨
    (∃ d' x, decByte cap d b = .ok d' ∧ d'.first = false ∧ d'.payload = d.payload ++ [x] ∧ d.payload.length ≠ cap) ∨
    (decByte cap d b = .error .overflow ∧ d.payload.length = cap) := by
  by_cases hdue : d.due = 0
  · by_cases hcode : d.code = Config.cobsMaxCode
    · exact .inl ⟨_, decByte_code cap d hb hdue (.inr hcode), rfl, rfl⟩
    · rw [decByte_code_after_zero cap d hb hdue hfirst hcode]
      obtain ⟨hlen, hemit⟩ | ⟨hlen, hemit⟩ := emit_cases cap d.payload 0 <;> rw [hemit]
      · exact .inr (.inr ⟨rfl, hlen⟩)
      · exact .inr (.inl ⟨_, 0, rfl, rfl, rfl, hlen⟩)
  · rw [decByte_data cap d hb hdue]
    obtain ⟨hlen, hemit⟩ | ⟨hlen, hemit⟩ := emit_cases cap d.payload b <;> rw [hemit]
    · exact .inr (.inr ⟨rfl, hlen⟩)
    · exact .inr (.inl ⟨_, b, rfl, hfirst, rfl, hlen⟩)

theorem decStream_cons_of_ok {cap : Nat} {d d' : DecRegs} {b : Byte} (h : decByte cap d b = .ok d') (rest : List Byte) :
    decStream cap d (b :: rest) = decStream cap d' rest := by
  simp only [decStream, h]

theorem decStream_cons_of_error {cap : Nat} {d : DecRegs} {b : Byte} {e : CodecStatus} (h : decByte cap d b = .error e)
    (rest : List Byte) : decStream cap d (b :: rest) = .error e := by
  simp only [decStream, h]

theorem decStream_nil {cap : Nat} {d : DecRegs} (hfirst : d.first = false) :
    decStream cap d [] = if 0 < d.due then emit cap d.payload d.code else .ok d.payload := by
  simp [decStream, hfirst]

/-- Once the first byte is read: a payload comes out where no byte is zero, `MALFORMED` only where one is, `OVERFLOW` only
where the bytes left and one more do not fit. -/
theorem decStream_cases (cap : Nat) (rest : List Byte) : ∀ d : DecRegs, d.first = false → d.payload.length ≤ cap →
    (∃ q, decStream cap d rest = .ok q ∧ 0 ∉ rest ∧ q.length ≤ d.payload.length + rest.length + 1 ∧ q.length ≤ cap) ∨
    (decStream cap d rest = .error .malformed ∧ 0 ∈ rest) ∨
    (decStream cap d rest = .error .overflow ∧ cap < d.payload.length + rest.length + 1) := by
  induction rest with
  | nil =>
    intro d hfirst hroom
    rw [decStream_nil hfirst, List.length_nil]
    by_cases hdue : 0 < d.due
    · rw [if_pos hdue]
      obtain ⟨hlen, hemit⟩ | ⟨hlen, hemit⟩ := emit_cases cap d.payload d.code
      · exact .inr (.inr ⟨hemit, by omega⟩)
      · exact .inl ⟨_, hemit, by simp, by simp, by simp; omega⟩
    · exact .inl ⟨d.payload, if_neg hdue, by simp, by omega, hroom⟩
  | cons b rest ih =>
    intro d hfirst hroom
    rw [List.length_cons]
    by_cases hb : b = 0
    · subst hb
      exact .inr (.inl ⟨decStream_cons_of_error (decByte_zero cap d) rest, List.mem_cons_self⟩)
    obtain ⟨d', hd, hfirst', hgrow⟩ | ⟨herr, hlen⟩ :
        (∃ d', decByte cap d b = .ok d' ∧ d'.first = false ∧
          d'.payload.length ≤ d.payload.length + 1 ∧ d'.payload.length ≤ cap) ∨
        (decByte cap d b = .error .overflow ∧ d.payload.length = cap) := by
      obtain ⟨d', hd, hfirst', hp⟩ | ⟨d', x, hd, hfirst', hp, hlen⟩ | herr := decByte_cases (cap := cap) hfirst hb
      · exact .inl ⟨d', hd, hfirst', by rw [hp]; omega, by rwa [hp]⟩
      · exact .inl ⟨d', hd, hfirst', by simp [hp], by simp [hp]; omega⟩
      · exact .inr herr
    · rw [decStream_cons_of_ok hd]
      obtain ⟨q, hq, hzero, hlen, hcap⟩ | ⟨hq, hzero⟩ | ⟨hq, hlen⟩ := ih d' hfirst' hgrow.2
      · refine .inl ⟨q, hq, ?_, by omega, hcap⟩
        rw [List.mem_cons]
        exact not_or.mpr ⟨Ne.symm hb, hzero⟩
      · exact .inr (.inl ⟨hq, List.mem_cons_of_mem b hzero⟩)
      · exact .inr (.inr ⟨hq, by omega⟩)
    · exact .inr (.inr ⟨decStream_cons_of_error herr rest, by omega⟩)

/-- A code byte with no zero due before it starts a block. -/
theorem decStream_code {cap : Nat} {code : Byte} {first : Bool} (h : first = true ∨ code = Config.cobsMaxCode) (p : List Byte)
    (c : Byte) (rest : List Byte) :
    decStream cap ⟨0, code, first, p⟩ (c :: rest) =
      if c = 0 then .error .malformed else decStream cap ⟨c.toNat - 1, c, false, p⟩ rest := by
  by_cases hc : c = 0
  · subst hc
    exact decStream_cons_of_error (decByte_zero cap _) rest
  · rw [if_neg hc]
    exact decStream_cons_of_ok (decByte_code cap _ hc rfl h) rest

/-- What the byte-at-a-time decoder answers on a whole frame. -/
theorem decStream_frame_cases (cap : Nat) (f : List Byte) :
    (∃ q, decStream cap ⟨0, 0, true, []⟩ f = .ok q ∧ f ≠ [] ∧ 0 ∉ f ∧ q.length ≤ f.length ∧ q.length ≤ cap) ∨
    (decStream cap ⟨0, 0, true, []⟩ f = .error .malformed ∧ (f = [] ∨ 0 ∈ f)) ∨
    (decStream cap ⟨0, 0, true, []⟩ f = .error .overflow ∧ cap < f.length) := by
  cases f with
  | nil => exact .inr (.inl ⟨rfl, .inl rfl⟩)
  | cons c rest =>
    rw [decStream_code (.inl rfl), List.length_cons]
    by_cases hc : c = 0
    · subst hc
      exact .inr (.inl ⟨if_pos rfl, .inr List.mem_cons_self⟩)
    rw [if_neg hc]
    obtain ⟨q, hq, hzero, hlen, hcap⟩ | ⟨hq, hzero⟩ | ⟨hq, hlen⟩ :=
      decStream_cases cap rest ⟨c.toNat - 1, c, false, []⟩ rfl (Nat.zero_le _)
    · refine .inl ⟨q, hq, List.cons_ne_nil c rest, ?_, by simpa using hlen, hcap⟩
      rw [List.mem_cons]
      exact not_or.mpr ⟨Ne.symm hc, hzero⟩
    · exact .inr (.inl ⟨hq, .inr (List.mem_cons_of_mem c hzero)⟩)
    · exact .inr (.inr ⟨hq, by simpa using hlen⟩)

/-! The two decoders block by block: each emits a block's data in order (R126, R135). -/

theorem emitAll_cons (cap : Nat) (p : List Byte) (x : Byte) (xs : List Byte) :
    emitAll cap p (x :: xs) = (emitData cap p x).bind (emitAll cap · xs) := by
  rw [emitAll]
  cases emitData cap p x <;> rfl

theorem emitAll_ok (cap : Nat) (data : List Byte) : ∀ p q : List Byte, emitAll cap p data = .ok q → q = p ++ data := by
  induction data with
  | nil =>
    intro p q h
    rw [List.append_nil, Except.ok.inj h]
  | cons x data ih =>
    intro p q h
    rw [emitAll_cons, emitData] at h
    by_cases hx : x = 0
    · rw [if_pos hx] at h
      exact nomatch h
    · rw [if_neg hx] at h
      obtain ⟨-, hemit⟩ | ⟨-, hemit⟩ := emit_cases cap p x <;> rw [hemit] at h
      · exact nomatch h
      · rw [ih (p ++ [x]) q h, List.append_assoc, List.singleton_append]

theorem decStream_data (cap : Nat) (code : Byte) (tail data : List Byte) : ∀ (p : List Byte) (due : Nat),
    data.length ≤ due →
      decStream cap ⟨due, code, false, p⟩ (data ++ tail) =
        (emitAll cap p data).bind fun q => decStream cap ⟨due - data.length, code, false, q⟩ tail := by
  induction data with
  | nil => exact fun _ _ _ => rfl
  | cons x data ih =>
    intro p due hdue
    rw [List.length_cons] at hdue ⊢
    rw [List.cons_append, emitAll_cons, emitData]
    by_cases hx : x = 0
    · subst hx
      exact decStream_cons_of_error (decByte_zero cap _) _
    · have hbyte := decByte_data cap ⟨due, code, false, p⟩ hx (by show due ≠ 0; omega)
      rw [if_neg hx]
      obtain ⟨-, hemit⟩ | ⟨-, hemit⟩ := emit_cases cap p x <;> rw [hemit] at hbyte ⊢
      · exact decStream_cons_of_error hbyte _
      · refine (decStream_cons_of_ok hbyte _).trans ((ih (p ++ [x]) (due - 1) (by omega)).trans ?_)
        rw [Nat.sub_sub, Nat.add_comm 1]
        rfl

section
variable (cap fuel : Nat) {c : Byte} (hc : c ≠ 0) (p : List Byte) {data : List Byte}
include hc

theorem decBlocks_of_short_data (hshort : data.length < c.toNat - 1) :
    decBlocks cap (fuel + 1) (c :: data) p = (emitAll cap p data).bind (emit cap · c) := by
  simp only [decBlocks, if_neg hc, if_pos hshort]
  cases emitAll cap p data <;> rfl

variable (hlen : data.length = c.toNat - 1)
include hlen

theorem decBlocks_of_data : decBlocks cap (fuel + 1) (c :: data) p = emitAll cap p data := by
  simp only [decBlocks, if_neg hc, ← hlen, lt_irrefl, if_false, List.take_length, List.drop_length]
  cases emitAll cap p data <;> rfl

theorem decBlocks_of_data_cons (next : Byte) (more : List Byte) :
    decBlocks cap (fuel + 1) (c :: (data ++ next :: more)) p =
      (emitAll cap p data).bind fun q =>
        if c = Config.cobsMaxCode then decBlocks cap fuel (next :: more) q
        else (emit cap q 0).bind (decBlocks cap fuel (next :: more)) := by
  have hwhole : ¬ (data ++ next :: more).length < data.length := by simp
  simp only [decBlocks, if_neg hc, ← hlen, if_neg hwhole, List.take_left, List.drop_left]
  cases emitAll cap p data with
  | error e => rfl
  | ok q =>
    show (if c = Config.cobsMaxCode then _ else _) = if c = Config.cobsMaxCode then _ else _
    cases emit cap q 0 <;> rfl

end

/-- How the decoder's answer and the byte-at-a-time decoder's are related: they are the same, but where a zero code byte
meets a full buffer each names the error it finds first (log entry 20). -/
def AnswersAgree (full : Prop) (blocks bytes : Except CodecStatus (List Byte)) : Prop :=
  blocks = bytes ∨ full ∧ blocks = .error .overflow ∧ bytes = .error .malformed

/-- After a block that is not full the zero is emitted before the next code byte is looked at, or after. -/
theorem AnswersAgree.of_emit_zero {cap fuel : Nat} {c next : Byte} (hc : c ≠ Config.cobsMaxCode) {more q : List Byte}
    (hrest : AnswersAgree (cap ≤ (q ++ [0]).length + more.length) (decBlocks cap fuel (next :: more) (q ++ [0]))
      (decStream cap ⟨0, Config.cobsMaxCode, false, q ++ [0]⟩ (next :: more))) :
    AnswersAgree (cap ≤ q.length + 1 + more.length) ((emit cap q 0).bind (decBlocks cap fuel (next :: more)))
      (decStream cap ⟨0, c, false, q⟩ (next :: more)) := by
  rw [List.length_append, List.length_singleton] at hrest
  by_cases hnext : next = 0
  · subst hnext
    rw [decStream_cons_of_error (decByte_zero cap _)] at hrest ⊢
    obtain ⟨hfull, hemit⟩ | ⟨-, hemit⟩ := emit_cases cap q 0 <;> rw [hemit]
    · exact .inr ⟨by omega, rfl, rfl⟩
    · exact hrest
  · have hbyte := decByte_code_after_zero cap ⟨0, c, false, q⟩ hnext rfl rfl hc
    rw [decStream_code (.inr rfl), if_neg hnext] at hrest
    obtain ⟨-, hemit⟩ | ⟨-, hemit⟩ := emit_cases cap q 0 <;> rw [hemit] at hbyte ⊢
    · exact .inl (decStream_cons_of_error hbyte more).symm
    · rw [decStream_cons_of_ok hbyte]
      exact hrest

theorem decBlocks_agrees (cap fuel : Nat) : ∀ (c : Byte) (rest p : List Byte), rest.length ≤ fuel →
    AnswersAgree (cap ≤ p.length + rest.length) (decBlocks cap (fuel + 1) (c :: rest) p)
      (decStream cap ⟨0, Config.cobsMaxCode, false, p⟩ (c :: rest)) := by
  induction fuel using Nat.strong_induction_on with
  | h fuel ih =>
    intro c rest p hfuel
    rw [decStream_code (.inr rfl)]
    by_cases hc : c = 0
    · subst hc
      exact .inl rfl
    rw [if_neg hc]
    by_cases hshort : rest.length < c.toNat - 1
    · have hdata := decStream_data cap c [] rest p (c.toNat - 1) hshort.le
      rw [List.append_nil] at hdata
      rw [decBlocks_of_short_data cap fuel hc p hshort, hdata]
      refine .inl (congrArg _ (funext fun q => ?_))
      rw [decStream_nil rfl]
      exact (if_pos (Nat.sub_pos_of_lt hshort)).symm
    obtain ⟨data, tail, rfl, hlen⟩ : ∃ data tail, data ++ tail = rest ∧ data.length = c.toNat - 1 :=
      ⟨_, _, List.take_append_drop (c.toNat - 1) rest, List.length_take_of_le (Nat.le_of_not_lt hshort)⟩
    rw [decStream_data cap c tail data p _ hlen.le, ← hlen, Nat.sub_self]
    cases tail with
    | nil =>
      rw [List.append_nil, decBlocks_of_data cap fuel hc p hlen]
      cases emitAll cap p data <;> exact .inl rfl
    | cons next more =>
      rw [List.length_append, List.length_cons] at hfuel
      obtain ⟨fuel, rfl⟩ := Nat.exists_eq_add_one.mpr (show 0 < fuel by omega)
      rw [decBlocks_of_data_cons cap _ hc p hlen]
      cases hdata : emitAll cap p data with
      | error e => exact .inl rfl
      | ok q =>
        obtain rfl := emitAll_ok cap data p q hdata
        have hbytes : p.length + (data ++ next :: more).length = (p ++ data).length + 1 + more.length := by
          simp only [List.length_append, List.length_cons]
          omega
        show AnswersAgree _ (if c = Config.cobsMaxCode then _ else _) _
        rw [hbytes]
        by_cases hmax : c = Config.cobsMaxCode
        · subst hmax
          rw [if_pos rfl]
          exact (ih fuel (Nat.lt_succ_self fuel) next more (p ++ data) (by omega)).imp_right fun h => ⟨by omega, h.2⟩
        · rw [if_neg hmax]
          exact .of_emit_zero hmax <| ih fuel (Nat.lt_succ_self fuel) next more (p ++ data ++ [0]) (by omega)

theorem cobsrDec_cons_agrees (cap : Nat) (c : Byte) (rest : List Byte) :
    AnswersAgree (cap ≤ rest.length) (decBlocks cap (c :: rest).length (c :: rest) [])
      (decStream cap ⟨0, 0, true, []⟩ (c :: rest)) := by
  have h := decBlocks_agrees cap rest.length c rest [] (Nat.le_refl _)
  rw [decStream_code (.inr rfl)] at h
  rw [decStream_code (.inl rfl)]
  simpa using h

/-- The two decoders' results on a whole frame. -/
theorem cobsrDec_cases (cap : Nat) (f : List Byte) :
    cobsrDecBytewise cap f = cobsrDec cap f ∨
      cap < f.length ∧ cobsrDec cap f = ⟨.overflow, []⟩ ∧ cobsrDecBytewise cap f = ⟨.malformed, []⟩ := by
  cases f with
  | nil => exact .inl rfl
  | cons c rest =>
    rw [cobsrDec, if_neg (List.cons_ne_nil c rest), cobsrDecBytewise]
    obtain h | ⟨hfull, hblocks, hbytes⟩ := cobsrDec_cons_agrees cap c rest
    · exact .inl (congrArg codecResult h.symm)
    · rw [hblocks, hbytes]
      exact .inr ⟨Nat.lt_succ_of_le hfull, rfl, rfl⟩

/-- Settles O16: the answers differ only in the error named, and only where the buffer is shorter than the frame. -/
theorem cobsrByteAtATimeDecoderAgrees : Obligations.CobsrByteAtATimeDecoderAgrees := by
  intro cap f
  obtain h | ⟨hshort, hblocks, hbytes⟩ := cobsrDec_cases cap f
  · rw [h]
    exact ⟨rfl, Iff.rfl, fun _ => rfl⟩
  · rw [hblocks, hbytes]
    exact ⟨rfl, by simp, fun hroom => absurd hshort (Nat.not_lt.mpr hroom)⟩

/-- What the decoder answers on any frame, as the byte-at-a-time decoder does. -/
theorem cobsrDec_result_cases (cap : Nat) (f : List Byte) :
    (∃ q, cobsrDec cap f = ⟨.ok, q⟩ ∧ f ≠ [] ∧ 0 ∉ f ∧ q.length ≤ f.length ∧ q.length ≤ cap) ∨
    (cobsrDec cap f = ⟨.malformed, []⟩ ∧ (f = [] ∨ 0 ∈ f)) ∨
    (cobsrDec cap f = ⟨.overflow, []⟩ ∧ cap < f.length) := by
  obtain h | ⟨hshort, hblocks, -⟩ := cobsrDec_cases cap f
  · rw [← h, cobsrDecBytewise]
    obtain ⟨q, hq, hframe⟩ | ⟨hq, hframe⟩ | ⟨hq, hframe⟩ := decStream_frame_cases cap f <;> rw [hq]
    · exact .inl ⟨q, rfl, hframe⟩
    · exact .inr (.inl ⟨rfl, hframe⟩)
    · exact .inr (.inr ⟨rfl, hframe⟩)
  · exact .inr (.inr ⟨hblocks, hshort⟩)

/-- Settles O14: a payload comes only from a frame without zeros, an overflow only from one longer than the buffer. -/
theorem cobsrDecRejectsZeroAndEmpty : Obligations.CobsrDecRejectsZeroAndEmpty := by
  refine ⟨fun _ => rfl, fun cap f hzero hroom => ?_, fun cap f hzero => ?_⟩
  · obtain ⟨q, -, -, hnone, -⟩ | ⟨hf, -⟩ | ⟨-, hshort⟩ := cobsrDec_result_cases cap f
    · exact absurd hzero hnone
    · exact hf
    · exact absurd hshort (Nat.not_lt.mpr hroom)
  · obtain ⟨q, -, -, hnone, -⟩ | ⟨hf, -⟩ | ⟨hf, -⟩ := cobsrDec_result_cases cap f
    · exact absurd hzero hnone
    · exact hf ▸ ⟨nofun, rfl⟩
    · exact hf ▸ ⟨nofun, rfl⟩

/-- Settles O15: nothing else is malformed and nothing else overflows; `05` and `02 05` both carry the payload `05`. -/
theorem cobsrDecAcceptsNonzeroFrames : Obligations.CobsrDecAcceptsNonzeroFrames := by
  refine ⟨fun cap f hne hnonzero hroom => ?_, fun cap f => ?_, [0x05], [0x02, 0x05], by decide⟩
  · obtain ⟨q, hf, -⟩ | ⟨-, hempty | hzero⟩ | ⟨-, hshort⟩ := cobsrDec_result_cases cap f
    · exact hf ▸ rfl
    · exact absurd hempty hne
    · exact absurd rfl (hnonzero 0 hzero)
    · exact absurd hshort (Nat.not_lt.mpr hroom)
  · obtain ⟨q, hf, -, -, hlen⟩ | ⟨hf, -⟩ | ⟨hf, -⟩ := cobsrDec_result_cases cap f
    · exact hf ▸ hlen
    · exact hf ▸ ⟨Nat.zero_le _, Nat.zero_le _⟩
    · exact hf ▸ ⟨Nat.zero_le _, Nat.zero_le _⟩

end Sys2Proof.Machine
end

section
/-! The CRC8 unit (42_crc8.md). A division step can be undone, so the register after a byte determines the register before it
and the byte: a byte that makes the register 0 is the checksum of what came before, and a changed byte changes every later
register. -/

namespace Sys2Proof.Machine

/-- Undoes `crcStep`: bit 0, which the shift leaves clear and the generator sets, says whether the generator was subtracted. -/
def crcUnstep (c : Byte) : Byte := if c.getLsbD 0 then (c ^^^ Config.crcPoly) >>> 1 ||| 0x80 else c >>> 1

theorem crcUnstep_crcStep (c : Byte) : crcUnstep (crcStep c) = c := by
  revert c
  decide

theorem crcStep_injective : Function.Injective crcStep := Function.LeftInverse.injective crcUnstep_crcStep

theorem crcSteps_injective (n : Nat) : Function.Injective (crcSteps n) := by
  induction n with
  | zero => exact fun _ _ h => h
  | succ n ih => exact fun _ _ h => crcStep_injective (ih h)

theorem crcSteps_zero (n : Nat) : crcSteps n 0 = 0 := by
  induction n with
  | zero => rfl
  | succ n ih => exact ih

theorem crcByte_eq (c b : Byte) : crcByte c b = crcSteps 8 (c ^^^ b) := rfl

theorem crcByte_left_injective {c c' b : Byte} (h : crcByte c b = crcByte c' b) : c = c' :=
  (BitVec.xor_left_inj b).mp (crcSteps_injective 8 h)

theorem crcByte_right_injective {c b b' : Byte} (h : crcByte c b = crcByte c b') : b = b' :=
  (BitVec.xor_right_inj c).mp (crcSteps_injective 8 h)

theorem crcByte_eq_zero_iff (c b : Byte) : crcByte c b = 0 ↔ c = b := by
  rw [crcByte_eq]
  conv_lhs => rw [← crcSteps_zero 8]
  rw [(crcSteps_injective 8).eq_iff]
  exact BitVec.xor_eq_zero_iff

/-- With the decided parameters nothing is reflected and nothing added at the end. -/
theorem crc8_eq (data : List Byte) : crc8 data = data.foldl crcByte 0 := BitVec.xor_zero

theorem crc8_snoc (data : List Byte) (b : Byte) : crc8 (data ++ [b]) = crcByte (crc8 data) b := by
  rw [crc8_eq, crc8_eq, List.foldl_append]
  rfl

theorem crc8Check_snoc (data : List Byte) (b : Byte) : crc8Check (data ++ [b]) = true ↔ crc8 data = b := by
  simp [crc8Check]

theorem crc8Check_protect (body : List Byte) : crc8Check (protect body) = true := (crc8Check_snoc body _).mpr rfl

/-- Settles O17: the last byte of a protected body is the checksum of the rest. -/
theorem crcProtectedBodyPasses : Obligations.CrcProtectedBodyPasses := ⟨crc8Check_protect, by decide +kernel⟩

/-- Settles O18: the last byte makes the register 0 exactly when it is the register before it. -/
theorem crcResidueForm : Obligations.CrcResidueForm := by
  intro block hblock
  obtain rfl | ⟨data, b, rfl⟩ := List.eq_nil_or_concat' block
  · exact absurd rfl hblock
  · rw [crc8Check_snoc, crc8_snoc, crcByte_eq_zero_iff]

theorem foldl_crcByte_injective (data : List Byte) : Function.Injective fun c => data.foldl crcByte c := by
  induction data with
  | nil => exact fun _ _ h => h
  | cons b data ih => exact fun _ _ h => crcByte_left_injective (ih h)

theorem flipped_ne {k : Nat} (hk : k < 8) (b : Byte) : b ^^^ (1 <<< k) ≠ b := by
  have hbit : (1 : Byte) <<< k ≠ 0 := by interval_cases k <;> decide
  exact fun h => hbit ((BitVec.xor_right_inj b).mp (h.trans BitVec.xor_zero.symm))

/-- Settles O19: the flipped byte leaves another register behind, and equal bytes after it keep the registers apart. -/
theorem crcDetectsOneFlippedBit : Obligations.CrcDetectsOneFlippedBit := by
  intro before after b k hk h
  rw [crc8_eq, crc8_eq, List.foldl_append, List.foldl_append, List.foldl_cons, List.foldl_cons] at h
  exact flipped_ne hk b (crcByte_right_injective (foldl_crcByte_injective after h))

end Sys2Proof.Machine
end

section
/-! What each instruction does to the whole state, and what it leaves unchanged (43_vm_instructions.md). -/

namespace Sys2Proof.Machine

open Sys2Proof.Safety

/-! The loops (R171, R172). -/

theorem exec_loopstart (count : Varint) (s : State) :
    exec (.loopstart count) s = .next (loopStart Config.loopMaxDepth count s) := rfl

theorem exec_loopend (s : State) : exec .loopend s = .next (loopEnd s) := rfl

theorem loopStart_of_room {max : Nat} {s : State} (h : s.depth < max) (count : Varint) :
    loopStart max count s =
      answer none (goto (s.pc + 1 + count.length) (pushFrame ⟨loopCount count, s.pc + 1 + count.length⟩ s)) :=
  ((loopStart_cases max count s).resolve_right fun hfull => Nat.not_lt.mpr hfull.1 h).2

theorem loopStart_of_full {max : Nat} {s : State} (h : max ≤ s.depth) (count : Varint) :
    loopStart max count s = answer none (goto (s.pc + 1 + count.length) (raiseDiag .loopOverflow s)) :=
  ((loopStart_cases max count s).resolve_left fun hroom => Nat.not_lt.mpr h hroom.1).2

/-- Settles O26: below the maximum depth LOOPSTART is a push and a jump past its operand. -/
theorem loopstartPushesFrame : Obligations.LoopstartPushesFrame := by
  intro count s hsize hroom
  refine ⟨_, exec_loopstart count s, ?_⟩
  rw [loopStart_of_room hroom]
  exact ⟨rfl, List.getElem?_set_self (hsize ▸ hroom), fun k hk => List.getElem?_set_ne hk.symm, fun _ => rfl⟩

/-- Settles O27: on a full stack the push gives way to a diagnostic bit. -/
theorem loopstartOnFullStackIsSkipped : Obligations.LoopstartOnFullStackIsSkipped := by
  intro count s hfull
  refine ⟨_, exec_loopstart count s, ?_⟩
  rw [loopStart_of_full hfull]
  exact ⟨rfl, fun _ => rfl⟩

theorem topFrame_of_live {s : State} {f : LoopFrame} (h : LiveFrame s (s.depth - 1) f) : topFrame s = f := by
  rw [topFrame, List.getD_eq_getElem?_getD, h.2]
  rfl

theorem loopEnd_of_empty {s : State} (h : s.depth = 0) :
    loopEnd s = answer none (goto (s.pc + 1) (raiseDiag .loopUnderflow s)) := if_pos h

theorem loopEnd_of_last {s : State} (hdepth : s.depth ≠ 0) (hcount : (topFrame s).count - 1 = 0) :
    loopEnd s = answer none (goto (s.pc + 1) (popFrame s)) := (if_neg hdepth).trans (if_pos hcount)

theorem loopEnd_of_more {s : State} (hdepth : s.depth ≠ 0) (hcount : (topFrame s).count - 1 ≠ 0) :
    loopEnd s = answer none (goto (topFrame s).resume (setTopCount ((topFrame s).count - 1) s)) :=
  (if_neg hdepth).trans (if_neg hcount)

/-- Counting down a live count does not wrap. -/
theorem count_sub_one_toNat {c : U32} (h : 1 ≤ c.toNat) : (c - 1).toNat = c.toNat - 1 := by
  have hone : (1 : U32).toNat = 1 := rfl
  have : c.toNat < 2 ^ 32 := c.isLt
  rw [BitVec.toNat_sub, hone]
  omega

theorem count_sub_one_eq_zero_iff {c : U32} (h : 1 ≤ c.toNat) : c - 1 = 0 ↔ c.toNat = 1 := by
  have hzero : (0 : U32).toNat = 0 := rfl
  rw [← BitVec.toNat_inj, count_sub_one_toNat h, hzero]
  omega

/-- Settles O28: a count of 1 goes down to 0 and pops; a greater one stays positive, without wrapping. -/
theorem loopendCountsDown : Obligations.LoopendCountsDown := by
  intro s f hdepth hlive hcount
  have htop : topFrame s = f := topFrame_of_live hlive
  have hlast := count_sub_one_eq_zero_iff hcount
  refine ⟨fun hone => ⟨_, exec_loopend s, ?_⟩,
    fun hmore => ⟨_, { f with count := f.count - 1 }, exec_loopend s, ?_⟩⟩
  · rw [loopEnd_of_last hdepth.ne' (htop ▸ hlast.mpr hone)]
    exact ⟨rfl, fun _ => rfl⟩
  · have hsize : s.depth - 1 < s.lstack.length := (List.getElem?_eq_some_iff.mp hlive.2).1
    rw [loopEnd_of_more hdepth.ne' (htop ▸ mt hlast.mp hmore.ne'), htop]
    refine ⟨rfl, ?_, count_sub_one_toNat hcount, rfl, fun k hk => List.getElem?_set_ne hk.symm, fun _ => rfl⟩
    rw [answer_lstack, goto_lstack, setTopCount_lstack, htop]
    exact List.getElem?_set_self hsize

/-- Settles O29: with no frame LOOPEND is a diagnostic bit and a jump past its opcode. -/
theorem loopendOnEmptyStackIsSkipped : Obligations.LoopendOnEmptyStackIsSkipped := by
  intro s hempty
  refine ⟨_, exec_loopend s, ?_⟩
  rw [loopEnd_of_empty hempty]
  exact ⟨rfl, fun _ => rfl⟩

/-! The rows (R173 to R176, R180). -/

/-- Settles O30: each row of `reportRows` runs `basicReport` with its own opcode. -/
theorem basicReportsEmitPreset : Obligations.BasicReportsEmitPreset := by
  refine ⟨reportRows_opcodes, rfl, fun row hrow hold s => ?_⟩
  have hspec := reportRow_spec row hrow
  exact ⟨hspec.encode_eq hold, _, hspec.exec_eq hold s, rfl, fun _ => rfl⟩

/-- Settles O33: each row of `invalidRows` runs `invalidOpcode`. -/
theorem invalidOpcodesAreSkipped : Obligations.InvalidOpcodesAreSkipped := by
  refine ⟨rfl, fun row hrow s => ?_⟩
  have hspec := invalidRow_spec row hrow
  exact ⟨hspec.encode_eq, _, hspec.exec_eq s, rfl, fun _ => rfl⟩

/-! The complex report (R177): the literals go to the fields of the set bits, in order. -/

theorem getField_setField (r : Report) (f g : Field) (b : Byte) :
    getField (setField r f b) g = if g = f then b else getField r g := by
  cases f <;> cases g <;> rfl

theorem fieldOfBit_inj {j k : Nat} (hj : j < 7) (hk : k < 7) : Config.fieldOfBit j = Config.fieldOfBit k ↔ j = k := by
  have h : ∀ j k : Fin 7, Config.fieldOfBit j = Config.fieldOfBit k ↔ j = k := by decide
  simpa using h ⟨j, hj⟩ ⟨k, hk⟩

theorem popcountBelow_mono (mask : Mask) {n m : Nat} (h : n ≤ m) : popcountBelow mask n ≤ popcountBelow mask m := by
  induction h with
  | refl => exact Nat.le_refl _
  | step _ ih => exact ih.trans (Nat.le_add_right _ _)

theorem fillFields_cons_clear {mask : Mask} {i : Nat} (h : mask.getLsbD i = false) (is : List Nat) (lits : List Byte)
    (r : Report) : fillFields mask (i :: is) lits r = fillFields mask is lits r := by
  simp [fillFields, h]

theorem fillFields_cons_set {mask : Mask} {i : Nat} (h : mask.getLsbD i = true) (is : List Nat) (l : Byte) (ls : List Byte)
    (r : Report) : fillFields mask (i :: is) (l :: ls) r = fillFields mask is ls (setField r (Config.fieldOfBit i) l) := by
  simp [fillFields, h]

/-- From bit `k` up, with the literals of the bits below it consumed: a field from `k` up whose bit is set is the literal of
that bit, any other is as it was. -/
theorem getField_fillFields (mask : Mask) (lits : List Byte) (hlits : lits.length = popcount mask) {j : Nat} (hj : j < 7)
    (n : Nat) : ∀ (k : Nat) (r : Report), k + n = 7 →
      some (getField (fillFields mask (List.range' k n) (lits.drop (popcountBelow mask k)) r) (Config.fieldOfBit j)) =
        if k ≤ j ∧ mask.getLsbD j = true then lits[popcountBelow mask j]? else some (getField r (Config.fieldOfBit j)) := by
  induction n with
  | zero =>
    intro k r hk
    have hpast : ¬ (k ≤ j ∧ mask.getLsbD j = true) := by omega
    rw [if_neg hpast]
    rfl
  | succ n ih =>
    intro k r hk
    rw [List.range'_succ]
    cases hbit : mask.getLsbD k with
    | false =>
      have hnext : popcountBelow mask k = popcountBelow mask (k + 1) := by simp [popcountBelow, hbit]
      have hsame : (k + 1 ≤ j ∧ mask.getLsbD j = true) ↔ (k ≤ j ∧ mask.getLsbD j = true) := by
        refine ⟨fun ⟨hle, hset⟩ => ⟨by omega, hset⟩, fun ⟨hle, hset⟩ => ⟨?_, hset⟩⟩
        have hne : k ≠ j := fun heq => by simp [← heq, hbit] at hset
        omega
      rw [fillFields_cons_clear hbit, hnext, ih (k + 1) r (by omega), if_congr hsame rfl rfl]
    | true =>
      have hnext : popcountBelow mask (k + 1) = popcountBelow mask k + 1 := by simp [popcountBelow, hbit]
      have hlt : popcountBelow mask k < lits.length := by
        have := popcountBelow_mono mask (show k + 1 ≤ 7 by omega)
        rw [hlits, popcount]
        omega
      rw [List.drop_eq_getElem_cons hlt, fillFields_cons_set hbit, ← hnext, ih (k + 1) _ (by omega), getField_setField]
      by_cases heq : j = k
      · subst heq
        simp [hbit]
      · have hfield : Config.fieldOfBit j ≠ Config.fieldOfBit k := mt (fieldOfBit_inj hj (by omega)).mp heq
        have hle : k + 1 ≤ j ↔ k ≤ j := by omega
        simp only [hle, if_neg hfield]

/-- A field of a complex report: its bit's literal, or its neutral value. -/
theorem getField_complexFields {mask : Mask} {lits : List Byte} (hlits : lits.length = popcount mask) {j : Nat} (hj : j < 7) :
    some (getField (complexFields mask lits) (Config.fieldOfBit j)) =
      if mask.getLsbD j = true then lits[popcountBelow mask j]?
      else some (getField Config.neutral (Config.fieldOfBit j)) := by
  have h := getField_fillFields mask lits hlits hj 7 0 Config.neutral rfl
  simpa [complexFields, Config.reportFields, List.range_eq_range', popcountBelow] using h

theorem complexFields_of_set {mask : Mask} {lits : List Byte} (hlits : lits.length = popcount mask) {j : Nat} (hj : j < 7)
    (hset : mask.getLsbD j = true) :
    lits[popcountBelow mask j]? = some (getField (complexFields mask lits) (Config.fieldOfBit j)) := by
  rw [getField_complexFields hlits hj, if_pos hset]

theorem complexFields_of_clear {mask : Mask} {lits : List Byte} (hlits : lits.length = popcount mask) {j : Nat} (hj : j < 7)
    (hclear : mask.getLsbD j = false) :
    getField (complexFields mask lits) (Config.fieldOfBit j) = getField Config.neutral (Config.fieldOfBit j) := by
  have h := getField_complexFields hlits hj
  rw [if_neg (Bool.eq_false_iff.mp hclear)] at h
  exact Option.some.inj h

/-- Settles O31: the fields of the seven bits, one by one. -/
theorem complexReportBuildsFields : Obligations.ComplexReportBuildsFields := by
  intro mask lits hold s hlits
  have hfield {j : Nat} (hj : j < 7) := And.intro (complexFields_of_set hlits hj) (complexFields_of_clear hlits hj)
  refine ⟨rfl, _, complexFields mask lits, exec_cplx mask lits hold s, by rw [← hlits]; rfl, ?_, fun _ => rfl⟩
  simp only [List.forall_mem_cons, List.not_mem_nil, IsEmpty.forall_iff, implies_true, and_true]
  exact ⟨hfield (j := 0) (by decide), hfield (j := 1) (by decide), hfield (j := 2) (by decide), hfield (j := 3) (by decide),
    hfield (j := 4) (by decide), hfield (j := 5) (by decide), hfield (j := 6) (by decide)⟩

/-! What every instruction leaves unchanged (R170). -/

/-- Settles O34: each of the five shared meanings moves `pc`, the loop stack, the hold timer and `diag` alone. -/
theorem instructionsNeverWriteBufWpRun : Obligations.InstructionsNeverWriteBufWpRun := by
  intro i s
  obtain ⟨op, -, -, h⟩ | ⟨count, -, h⟩ | ⟨-, h⟩ | ⟨op, hold, -, -, -, h⟩ | ⟨mask, lits, hold, -, h⟩ := exec_cases i s
  · exact ⟨_, _, h, rfl, rfl, rfl, rfl, rfl, rfl, fun _ => rfl⟩
  · refine ⟨_, none, h, ?_⟩
    obtain ⟨-, h⟩ | ⟨-, h⟩ := loopStart_cases Config.loopMaxDepth count s <;> simp [h]
  · refine ⟨_, none, h, ?_⟩
    obtain ⟨-, h⟩ | ⟨-, -, h⟩ | ⟨-, -, h⟩ := loopEnd_cases s <;> simp [h]
  · exact ⟨_, _, h, rfl, rfl, rfl, rfl, rfl, rfl, fun _ => rfl⟩
  · exact ⟨_, _, h, rfl, rfl, rfl, rfl, rfl, rfl, fun _ => rfl⟩

end Sys2Proof.Machine
end

section
/-! Ticks (44_vm_operations.md R208 to R212): the window a fetch reads, what decoding it gives, and the tick that runs, holds,
ends or truncates. -/

namespace Sys2Proof.Machine

open Sys2Proof.Safety

/-! Bytes that stand in the buffer, and runs of reads (20_memory.md R44). -/

/-- The bytes stand in the buffer from the address up. -/
def StandsAt (m : Memory) (a : Nat) (bs : List Byte) : Prop := ∀ k, k < bs.length → readByte m (a + k) = bs[k]?

theorem standsAt_nil (m : Memory) (a : Nat) : StandsAt m a [] := fun k hk => absurd hk (Nat.not_lt_zero k)

theorem standsAt_cons {m : Memory} {a : Nat} {b : Byte} {bs : List Byte} :
    StandsAt m a (b :: bs) ↔ readByte m a = some b ∧ StandsAt m (a + 1) bs := by
  constructor
  · refine fun h => ⟨h 0 (Nat.succ_pos _), fun k hk => ?_⟩
    rw [Nat.add_right_comm]
    exact h (k + 1) (Nat.succ_lt_succ hk)
  · rintro ⟨hb, hbs⟩ k hk
    cases k with
    | zero => exact hb
    | succ k =>
      rw [← Nat.add_assoc, Nat.add_right_comm]
      exact hbs k (Nat.lt_of_succ_lt_succ hk)

theorem standsAt_append {m : Memory} {bs cs : List Byte} : ∀ {a : Nat},
    StandsAt m a (bs ++ cs) ↔ StandsAt m a bs ∧ StandsAt m (a + bs.length) cs := by
  induction bs with
  | nil => simp [standsAt_nil]
  | cons b bs ih =>
    intro a
    rw [List.cons_append, standsAt_cons, standsAt_cons, ih, List.length_cons, and_assoc, Nat.add_assoc a 1, Nat.add_comm 1]

/-- A run of reads starts with the bytes that stand at its address. -/
theorem readUpTo_of_standsAt {m : Memory} {bs : List Byte} : ∀ {a n : Nat}, StandsAt m a bs → bs.length ≤ n →
    readUpTo m a n = bs ++ readUpTo m (a + bs.length) (n - bs.length) := by
  induction bs with
  | nil => exact fun _ _ => rfl
  | cons b bs ih =>
    intro a n hbs hn
    obtain ⟨hfirst, hrest⟩ := standsAt_cons.mp hbs
    rw [List.length_cons] at hn
    obtain ⟨n, rfl⟩ := Nat.exists_eq_add_one.mpr (Nat.lt_of_lt_of_le (Nat.succ_pos _) hn)
    rw [readUpTo, hfirst, List.length_cons, List.cons_append, Nat.add_sub_add_right, ← Nat.add_assoc, Nat.add_right_comm]
    exact congrArg (b :: ·) (ih hrest (Nat.le_of_succ_le_succ hn))

/-- The bytes a run of reads starts with stand at its address. -/
theorem standsAt_of_readUpTo {m : Memory} {a n : Nat} {bs after : List Byte} (h : readUpTo m a n = bs ++ after) :
    StandsAt m a bs ∧ bs.length ≤ n := by
  have hlen : bs.length ≤ (readUpTo m a n).length := by simp [h]
  refine ⟨fun k hk => ?_, hlen.trans (readUpTo_length_le m n a)⟩
  rw [← readUpTo_getElem m n a k (Nat.lt_of_lt_of_le hk hlen), h, List.getElem?_append_left hk]

/-! The window of a fetch. -/

/-- Every byte from `pc` up to `wp` is written. -/
def ProgramWritten (s : State) : Prop := ∀ a, s.pc ≤ a → a < s.wp → ∃ b, readByte s.buf a = some b

theorem fetchWindow_length {s : State} (h : ProgramWritten s) :
    (fetchWindow s).length = min Config.maxInstrLen (s.wp - s.pc) := by
  refine readUpTo_length_of_loaded s.buf _ s.pc fun k hk => h _ (Nat.le_add_right _ _) ?_
  have := Nat.lt_of_lt_of_le hk (Nat.min_le_right _ _)
  omega

theorem fetchWindow_cons {s : State} {op : Byte} (hpc : s.pc < s.wp) (h : readByte s.buf s.pc = some op) :
    ∃ rest, fetchWindow s = op :: rest := by
  have hmax : Config.maxInstrLen = 13 := rfl
  have hop : StandsAt s.buf s.pc [op] := standsAt_cons.mpr ⟨h, standsAt_nil _ _⟩
  exact ⟨_, readUpTo_of_standsAt hop (by rw [List.length_singleton]; omega)⟩

/-- The window starts with a well-formed instruction exactly where its bytes stand at `pc`, below `wp`. -/
theorem decode_fetchWindow_iff (s : State) (i : Instr) :
    (∃ after, decode (fetchWindow s) = .ok (i, after)) ↔
      i.wf = true ∧ (encode i).length ≤ s.wp - s.pc ∧ StandsAt s.buf s.pc (encode i) := by
  constructor
  · rintro ⟨after, h⟩
    obtain ⟨hwf, hbytes⟩ := encode_of_decode h
    obtain ⟨hread, hlen⟩ := standsAt_of_readUpTo hbytes.symm
    exact ⟨hwf, hlen.trans (Nat.min_le_right _ _), hread⟩
  · rintro ⟨hwf, hlen, hread⟩
    have hwindow : fetchWindow s = encode i ++ _ :=
      readUpTo_of_standsAt hread (Nat.le_min.mpr ⟨encode_length_le hwf, hlen⟩)
    rw [hwindow]
    exact ⟨_, decode_encode hwf _⟩

/-- Settles O36: the bytes at `pc` below `wp` are in the window, whole. -/
theorem fetchSeesTheInstructionAtPc : Obligations.FetchSeesTheInstructionAtPc :=
  fun s i hwf hlen hread => (decode_fetchWindow_iff s i).mpr ⟨hwf, by omega, hread⟩

theorem fetchExecute_of_ok {s : State} {i : Instr} {after : List Byte} (h : decode (fetchWindow s) = .ok (i, after)) :
    fetchExecute s = exec i s := by
  simp only [fetchExecute, h]

/-- A fetch that decodes nothing truncates where the window ends at `wp` or holds five continuation bytes. -/
theorem fetchExecute_of_error {s : State} {e : DecodeError} (h : decode (fetchWindow s) = .error e) :
    fetchExecute s =
      if e = .fiveContinuations ∨ s.pc + (fetchWindow s).length = s.wp then .next (truncated s)
      else .fault (.unwrittenByte (s.pc + (fetchWindow s).length)) := by
  cases e <;> simp [fetchExecute, h]

/-- Where the bytes up to `wp` are written one of the two is the case: a window cut short by its length alone is long enough
for any instruction. -/
theorem fetchExecute_of_written {s : State} {e : DecodeError} (hwritten : ProgramWritten s) (hpc : s.pc ≤ s.wp)
    (h : decode (fetchWindow s) = .error e) : fetchExecute s = .next (truncated s) := by
  rw [fetchExecute_of_error h]
  refine if_pos ((decode_error h).imp_right fun ⟨_, hshort⟩ => ?_)
  rw [fetchWindow_length hwritten] at hshort ⊢
  omega

/-! What a tick does, case by case (R208 to R211). -/

theorem holding_eq_false {now start hold : U32} (h : ¬ (now - start).toNat < hold.toNat) : holding now start hold = false :=
  decide_eq_false h

theorem holding_eq_true {now start hold : U32} (h : (now - start).toNat < hold.toNat) : holding now start hold = true :=
  decide_eq_true h

section
variable {t : U32} {s : State}

theorem tick_of_idle (h : s.run = .idle) : tick t s = .next (answer none (latchClock t s)) := if_pos h

variable (hrun : s.run = .executing)
include hrun

theorem tick_of_holding (hhold : holding t s.holdStart s.holdTime = true) :
    tick t s = .next (answer none (latchClock t s)) := by
  have hexec : s.run ≠ .idle := by simp [hrun]
  exact (if_neg hexec).trans (if_pos hhold)

theorem tick_of_fetch (hhold : holding t s.holdStart s.holdTime = false) (hpc : s.pc < s.wp) :
    tick t s = fetchExecute (clearHold (latchClock t s)) := by
  have hexec : s.run ≠ .idle := by simp [hrun]
  exact (if_neg hexec).trans ((if_neg (Bool.eq_false_iff.mp hhold)).trans (if_neg (Nat.not_le.mpr hpc)))

end

/-- Settles O35: neither taking the operation, latching the clock nor clearing the hold timer moves the window. -/
theorem stepRunsDecodedInstruction : Obligations.StepRunsDecodedInstruction := by
  intro s now ops i after hinbox hrun hhold hpc hdecode
  rw [step_tick hinbox, tick_of_fetch (s := withInbox ops s) hrun (holding_eq_false hhold) hpc]
  exact fetchExecute_of_ok (s := clearHold (latchClock now (withInbox ops s))) hdecode

/-- Settles O38: the three ways a tick goes that fetch nothing. -/
theorem tickWithoutAnInstruction : Obligations.TickWithoutAnInstruction := by
  intro s now ops hinbox
  rw [step_tick hinbox]
  exact ⟨fun hidle => tick_of_idle (s := withInbox ops s) hidle,
    fun hrun hhold => tick_of_holding (s := withInbox ops s) hrun (holding_eq_true hhold),
    fun hrun hhold hend => tick_of_program_end (s := withInbox ops s) hrun (holding_eq_false hhold) hend⟩

/-- Settles O39: the difference of the clock values is the time elapsed, whether or not the clock has wrapped. -/
theorem holdLastsItsMilliseconds : Obligations.HoldLastsItsMilliseconds := by
  intro t0 h elapsed helapsed
  have hdiff : (t0 + BitVec.ofNat 32 elapsed - t0).toNat = elapsed := by
    rw [BitVec.add_comm, BitVec.add_sub_cancel, BitVec.toNat_ofNat, Nat.mod_eq_of_lt helapsed]
  rw [holding, hdiff, decide_eq_true_eq]

/-- A tick over written bytes that hold no whole instruction. -/
theorem step_of_truncated {s : State} {now : U32} {ops : List Operation} {e : DecodeError}
    (hinbox : s.inbox = .tick now :: ops) (hrun : s.run = .executing) (hhold : holding now s.holdStart s.holdTime = false) (hpc : s.pc < s.wp)
    (hwritten : ProgramWritten s) (hdecode : decode (fetchWindow s) = .error e) :
    step s = .next (truncated (clearHold (latchClock now (withInbox ops s)))) := by
  rw [step_tick hinbox, tick_of_fetch (s := withInbox ops s) hrun hhold hpc]
  exact fetchExecute_of_written (s := clearHold (latchClock now (withInbox ops s))) hwritten hpc.le hdecode

/-- Settles O40: over written bytes the fetch takes the truncated path, whatever the error. -/
theorem truncatedOperandEndsTheProgram : Obligations.TruncatedOperandEndsTheProgram :=
  fun _ _ _ _ hinbox hrun hhold hpc hwritten hdecode =>
    step_of_truncated hinbox hrun (holding_eq_false hhold) hpc hwritten hdecode

/-! `VarintAt` reads the operand the fetch hands over (40_varint.md R99). -/

theorem varintAt_eq {a : Nat} {s : State} (h : a ≤ s.wp) :
    varintAt a s = varintDec (readUpTo s.buf a (s.wp - a)) (readUpTo s.buf a (s.wp - a)).length := by
  have hlen := readUpTo_length_le s.buf (s.wp - a) a
  rw [varintAt, if_pos h, varintDec, varintDec, List.take_of_length_le hlen, List.take_length]

/-- A complete `VarintAt` is a well-formed operand that stands at the address, below `wp`. -/
theorem standsAt_of_varintAt {a : Nat} {s : State} {v : U32} {k : Nat} {overflow : Bool}
    (h : varintAt a s = ⟨v, k, true, overflow⟩) :
    ∃ w : Varint, Varint.wf w = true ∧ a + w.length ≤ s.wp ∧ StandsAt s.buf a (encodeVarint w) ∧
      varintValue w = v ∧ w.length = k := by
  by_cases ha : a ≤ s.wp
  · rw [varintAt_eq ha] at h
    cases hw : takeVarint (readUpTo s.buf a (s.wp - a)) with
    | error e =>
      have := (varintDec_of_takeVarint_error hw).1
      simp [h] at this
    | ok read =>
      obtain ⟨w, after⟩ := read
      rw [varintDec_of_takeVarint hw] at h
      obtain ⟨hvalue, hlength, -, -⟩ := VarintDecoded.mk.inj h
      obtain ⟨hwf, hbytes⟩ := (takeVarint_eq_ok_iff _ _ _).mp hw
      obtain ⟨hread, hlen⟩ := standsAt_of_readUpTo hbytes.symm
      rw [encodeVarint_length] at hlen
      exact ⟨w, hwf, by omega, hread, hvalue, hlength⟩
  · rw [varintAt, if_neg ha] at h
    exact nomatch h

theorem varintAt_complete {a : Nat} {s : State} {w : Varint} (hwf : Varint.wf w = true) (hlen : a + w.length ≤ s.wp)
    (hread : StandsAt s.buf a (encodeVarint w)) : (varintAt a s).complete = true := by
  have hbytes := readUpTo_of_standsAt (n := s.wp - a) hread (by rw [encodeVarint_length]; omega)
  rw [varintAt_eq (by omega), varintDec_of_takeVarint ((takeVarint_eq_ok_iff _ _ _).mpr ⟨hwf, hbytes.symm⟩)]

/-- The fetch of an instruction that is an opcode and a varint. -/
theorem fetch_of_varintAt {s : State} {op : Byte} {mk : Varint → Instr} (hencode : ∀ w, encode (mk w) = op :: encodeVarint w)
    (hwf : ∀ w, (mk w).wf = Varint.wf w) (hop : readByte s.buf s.pc = some op) {v : U32} {k : Nat} {overflow : Bool}
    (h : varintAt (s.pc + 1) s = ⟨v, k, true, overflow⟩) :
    ∃ w after, decode (fetchWindow s) = .ok (mk w, after) ∧ varintValue w = v ∧ w.length = k := by
  obtain ⟨w, hw, hlen, hread, hvalue, hlength⟩ := standsAt_of_varintAt h
  have hmk : (encode (mk w)).length ≤ s.wp - s.pc ∧ StandsAt s.buf s.pc (encode (mk w)) := by
    rw [hencode, List.length_cons, encodeVarint_length]
    exact ⟨by omega, standsAt_cons.mpr ⟨hop, hread⟩⟩
  obtain ⟨after, hdecode⟩ := (decode_fetchWindow_iff s (mk w)).mpr ⟨(hwf w).trans hw, hmk⟩
  exact ⟨w, after, hdecode, hvalue, hlength⟩

theorem fetch_cplx_of_varintAt {s : State} {mask : Mask} {lits : List Byte}
    (hop : readByte s.buf s.pc = some (complexOpcode mask)) (hlits : lits.length = popcount mask)
    (hread : StandsAt s.buf (s.pc + 1) lits) {v : U32} {k : Nat} {overflow : Bool}
    (h : varintAt (s.pc + 1 + popcount mask) s = ⟨v, k, true, overflow⟩) :
    ∃ hold after, decode (fetchWindow s) = .ok (.cplx mask lits hold, after) ∧ varintValue hold = v ∧ hold.length = k := by
  obtain ⟨hold, hwf, hlen, hhold, hvalue, hlength⟩ := standsAt_of_varintAt h
  have hcplx : (encode (.cplx mask lits hold)).length ≤ s.wp - s.pc ∧
      StandsAt s.buf s.pc (encode (.cplx mask lits hold)) := by
    rw [encode_cplx_length, encode, standsAt_cons, standsAt_append, hlits]
    exact ⟨by omega, hop, hread, hhold⟩
  obtain ⟨after, hdecode⟩ := (decode_fetchWindow_iff s _).mpr ⟨(wf_cplx_iff mask lits hold).mpr ⟨hlits, hwf⟩, hcplx⟩
  exact ⟨hold, after, hdecode, hvalue, hlength⟩

/-- An opcode followed by `k` literal bytes and a varint that `VarintAt` cannot read to its end: the fetch decodes nothing,
for an instruction's bytes would hold a whole varint there. -/
theorem fetch_error_of_varintAt {s : State} {op : Byte} (hpc : s.pc < s.wp) (hop : readByte s.buf s.pc = some op) (k : Nat)
    (hdecode : ∀ rest i after, decode (op :: rest) = .ok (i, after) →
      ∃ lits w, lits.length = k ∧ Varint.wf w = true ∧ lits ++ (encodeVarint w ++ after) = rest)
    (h : (varintAt (s.pc + 1 + k) s).complete = false) : ∃ e, decode (fetchWindow s) = .error e := by
  obtain ⟨rest, hrest⟩ := fetchWindow_cons hpc hop
  cases hwindow : decode (fetchWindow s) with
  | error e => exact ⟨e, rfl⟩
  | ok read =>
    obtain ⟨i, after⟩ := read
    rw [hrest] at hwindow
    obtain ⟨lits, w, rfl, hwf, rfl⟩ := hdecode rest i after hwindow
    have hbytes : fetchWindow s = (op :: (lits ++ encodeVarint w)) ++ after := by simp [hrest]
    obtain ⟨hread, hlen⟩ := standsAt_of_readUpTo hbytes
    rw [standsAt_cons, standsAt_append] at hread
    rw [List.length_cons, List.length_append, encodeVarint_length] at hlen
    have hcomplete := varintAt_complete hwf (by omega) hread.2.2
    rw [hcomplete] at h
    exact nomatch h

theorem operand_of_decodeWithVarint {op : Byte} {mk : Varint → Instr}
    (hdecode : ∀ rest, decode (op :: rest) = decodeWithVarint mk rest) (rest : List Byte) (i : Instr) (after : List Byte)
    (h : decode (op :: rest) = .ok (i, after)) :
    ∃ (lits : List Byte) (w : Varint), lits.length = 0 ∧ Varint.wf w = true ∧ lits ++ (encodeVarint w ++ after) = rest := by
  rw [hdecode] at h
  obtain ⟨w, hwf, -, hbytes⟩ := (decodeWithVarint_eq_ok_iff _ _ _ _).mp h
  exact ⟨[], w, rfl, hwf, hbytes⟩

/-- Settles O37: `VarintAt` reads the bytes the decoder reads, so it is complete exactly where the decoder finds the
operand. -/
theorem fetchedCountIsVarintAt : Obligations.FetchedCountIsVarintAt := by
  intro s hpc
  refine ⟨fun v k overflow hop h => ?_, fun row hrow v k overflow hop h => ?_,
    fun mask lits v k overflow hop hlits hread h => fetch_cplx_of_varintAt hop hlits ?_ h,
    fun op a now ops hop hoperand hwritten hincomplete hinbox hrun hhold => ?_⟩
  · exact fetch_of_varintAt (mk := .loopstart) (fun _ => rfl) (fun _ => rfl) hop h
  · have hspec := reportRow_spec row hrow
    exact fetch_of_varintAt hspec.encode_eq hspec.wf_eq hop h
  · exact fun j hj => hread j (hlits ▸ hj)
  · obtain ⟨e, herr⟩ : ∃ e, decode (fetchWindow s) = .error e := by
      obtain ⟨rfl | hrange, rfl⟩ | ⟨mask, rfl, rfl⟩ := hoperand
      · exact fetch_error_of_varintAt hpc hop 0 (operand_of_decodeWithVarint decode_loopstart) hincomplete
      · obtain ⟨mk, hrow⟩ := exists_reportRow hrange
        exact fetch_error_of_varintAt hpc hop 0 (operand_of_decodeWithVarint (decode_reportRow hrow)) hincomplete
      · refine fetch_error_of_varintAt hpc hop (popcount mask) (fun rest i after h => ?_) hincomplete
        rw [decode_complexOpcode] at h
        obtain ⟨lits, hold, hlits, hwf, -, hbytes⟩ := (decodeComplex_eq_ok_iff _ _ _ _).mp h
        exact ⟨lits, hold, hlits, hwf, hbytes⟩
    exact step_of_truncated hinbox hrun (holding_eq_false hhold) hpc hwritten herr

/-! Which instructions return a report (43_vm_instructions.md section 6). -/

/-- The instructions that are no report return `none`; a report's opcode says which it is. -/
theorem exec_result_cases (i : Instr) (s : State) :
    (∃ t, exec i s = .next t ∧ t.result = .tick none) ∨
    (∃ op operands, encode i = op :: operands ∧ (0x10 ≤ op.toNat ∧ op.toNat ≤ 0x36 ∨ 0x80 ≤ op.toNat)) := by
  obtain ⟨op, -, -, h⟩ | ⟨count, -, h⟩ | ⟨-, h⟩ | ⟨op, hold, hencode, hlow, hhigh, -⟩ | ⟨mask, lits, hold, rfl, -⟩ :=
    exec_cases i s
  · exact .inl ⟨_, h, rfl⟩
  · refine .inl ⟨_, h, ?_⟩
    obtain ⟨-, h⟩ | ⟨-, h⟩ := loopStart_cases Config.loopMaxDepth count s <;> rw [h, answer_result]
  · refine .inl ⟨_, h, ?_⟩
    obtain ⟨-, h⟩ | ⟨-, -, h⟩ | ⟨-, -, h⟩ := loopEnd_cases s <;> rw [h, answer_result]
  · exact .inr ⟨op, _, hencode, .inl ⟨hlow, hhigh⟩⟩
  · exact .inr ⟨_, _, rfl, .inr ((classBit_iff _).mp (Laws.OpcodeFirst.complexOpcode_class mask))⟩

/-- Settles O41: each other way a tick goes returns `none`. -/
theorem reportsComeOnlyFromReportInstructions : Obligations.ReportsComeOnlyFromReportInstructions := by
  intro s t now r htick hresult
  have hnone {u : State} (h : tick now s = .next u) (hu : u.result = .tick none) : False := by
    obtain rfl := Host.Outcome.next.inj (h.symm.trans htick)
    exact nomatch hresult.symm.trans hu
  obtain ⟨-, h⟩ | ⟨-, -, h⟩ | ⟨-, -, -, h⟩ | ⟨hrun, hhold, hpc, h⟩ := tick_cases now s
  · exact (hnone h rfl).elim
  · exact (hnone h rfl).elim
  · exact (hnone h rfl).elim
  · refine ⟨hrun, hhold, hpc, ?_⟩
    obtain ⟨i, after, hdecode, hexec⟩ | ⟨e, -, hexec⟩ | ⟨e, -, -, hexec⟩ :=
      fetchExecute_cases (clearHold (latchClock now s)) <;> rw [hexec] at h
    · obtain ⟨u, hu, hres⟩ | ⟨op, operands, hencode, hop⟩ := exec_result_cases i (clearHold (latchClock now s))
      · exact (hnone (h.trans hu) hres).elim
      · exact ⟨i, op, operands, after, hdecode, hencode, hop⟩
    · exact (hnone h rfl).elim
    · exact nomatch h.symm.trans htick

end Sys2Proof.Machine
end

section
/-! One operation of the environment (00_scope.md R9): what each does to the whole state, said once, and what every step
keeps or changes because of it. -/

namespace Sys2Proof.Machine

open Sys2Proof.Safety

/-! The operations, by what they do: a command of the machine, an answer alone, a tick, a reset. -/

/-- The command an operation carries to the machine: its own, or the one in a frame's body (45_receive_path.md R241). -/
inductive Carries : Operation → Command → Prop where
  | load (bytes : List Byte) : Carries (.load bytes) (.appendInstruction bytes)
  | clear : Carries .clear .clearProgram
  | start : Carries .start .start
  | stop : Carries .stop .stop
  | frame {frame body : List Byte} {c : Command} (hbody : rxBody Config.decCap Config.crcEnable frame = some body)
      (hc : Config.cmdDecode body = c) : Carries (.rxFrame frame) c

/-- Each operation; what a discarded frame or a codec operation answers does not depend on the state, only `Inspect` does. -/
theorem operation_cases (op : Operation) :
    (∃ c, Carries op c ∧ ∀ s, invoke op s = .next (withResult .nothing (runCommand Config.bufCap c s))) ∨
    (∃ r, ∀ s, invoke op s = .next (withResult r s)) ∨ op = .inspect ∨ (∃ now, op = .tick now) ∨ op = .reset := by
  cases op
  case load bytes => exact .inl ⟨_, .load bytes, fun _ => rfl⟩
  case clear => exact .inl ⟨_, .clear, fun _ => rfl⟩
  case start => exact .inl ⟨_, .start, fun _ => rfl⟩
  case stop => exact .inl ⟨_, .stop, fun _ => rfl⟩
  case rxFrame frame =>
    cases hbody : rxBody Config.decCap Config.crcEnable frame with
    | some body => exact .inl ⟨_, .frame hbody rfl, fun s => by simp only [invoke, rxFrame, hbody]⟩
    | none => exact .inr (.inl ⟨.nothing, fun s => by simp only [invoke, rxFrame, hbody]⟩)
  case inspect => exact .inr (.inr (.inl rfl))
  case tick now => exact .inr (.inr (.inr (.inl ⟨now, rfl⟩)))
  case reset => exact .inr (.inr (.inr (.inr rfl)))
  all_goals exact .inr (.inl ⟨_, fun _ => rfl⟩)

/-- What the next state of an operation is. -/
theorem invoke_next_cases {op : Operation} {s t : State} (h : invoke op s = .next t) :
    (∃ c, Carries op c ∧ t = withResult .nothing (runCommand Config.bufCap c s)) ∨
    (∃ r, t = withResult r s) ∨ (∃ now, op = .tick now ∧ tick now s = .next t) ∨ (op = .reset ∧ t = applyReset s) := by
  obtain ⟨c, hc, hinvoke⟩ | ⟨r, hinvoke⟩ | rfl | ⟨now, rfl⟩ | rfl := operation_cases op
  · exact .inl ⟨c, hc, Host.Outcome.next.inj (h.symm.trans (hinvoke s))⟩
  · exact .inr (.inl ⟨r, Host.Outcome.next.inj (h.symm.trans (hinvoke s))⟩)
  · exact .inr (.inl ⟨_, (Host.Outcome.next.inj h).symm⟩)
  · exact .inr (.inr (.inl ⟨now, rfl, h⟩))
  · exact .inr (.inr (.inr ⟨rfl, (Host.Outcome.next.inj h).symm⟩))

/-- What the next state of a tick is: the machine as it was, the run over, an instruction run, or a program cut short. -/
theorem tick_next_cases {now : U32} {s t : State} (h : tick now s = .next t) :
    ((s.run = .idle ∨ holding now s.holdStart s.holdTime = true) ∧ t = answer none (latchClock now s)) ∨
    (s.run = .executing ∧ holding now s.holdStart s.holdTime = false ∧ s.wp ≤ s.pc ∧
      t = answer none (resetRun (clearHold (latchClock now s)))) ∨
    (s.run = .executing ∧ s.pc < s.wp ∧ ∃ i after, decode (fetchWindow s) = .ok (i, after) ∧
      exec i (clearHold (latchClock now s)) = .next t) ∨
    (s.run = .executing ∧ s.pc < s.wp ∧ ∃ e, decode (fetchWindow s) = .error e ∧
      t = truncated (clearHold (latchClock now s))) := by
  obtain ⟨hidle, htick⟩ | ⟨-, hhold, htick⟩ | ⟨hrun, hhold, hend, htick⟩ | ⟨hrun, -, hpc, htick⟩ := tick_cases now s <;>
    rw [htick] at h
  · exact .inl ⟨.inl hidle, (Host.Outcome.next.inj h).symm⟩
  · exact .inl ⟨.inr hhold, (Host.Outcome.next.inj h).symm⟩
  · exact .inr (.inl ⟨hrun, hhold, hend, (Host.Outcome.next.inj h).symm⟩)
  · obtain ⟨i, after, hdecode, hexec⟩ | ⟨e, hdecode, hexec⟩ | ⟨e, -, -, hexec⟩ :=
      fetchExecute_cases (clearHold (latchClock now s)) <;> rw [hexec] at h
    · exact .inr (.inr (.inl ⟨hrun, hpc, i, after, hdecode, h⟩))
    · exact .inr (.inr (.inr ⟨hrun, hpc, e, hdecode, (Host.Outcome.next.inj h).symm⟩))
    · exact nomatch h

/-- A property that does not speak of the inbox or the result is kept by every step if the commands, a tick and reset
keep it. -/
theorem step_keeps {P : State → Prop} (hinbox : ∀ s ops, P s → P (withInbox ops s))
    (hresult : ∀ s r, P s → P (withResult r s)) (hcommand : ∀ s c, P s → P (runCommand Config.bufCap c s))
    (htick : ∀ s t now, P s → tick now s = .next t → P t)
    (hreset : ∀ s, P s → P (applyReset s)) {s t : State} (hs : P s) (h : step s = .next t) : P t := by
  obtain ⟨-, hstep⟩ | ⟨op, ops, -, hstep⟩ := step_cases s <;> rw [hstep] at h
  · exact Host.Outcome.next.inj h ▸ hs
  · have hs := hinbox s ops hs
    obtain ⟨c, -, rfl⟩ | ⟨r, rfl⟩ | ⟨now, -, htick'⟩ | ⟨-, rfl⟩ := invoke_next_cases h
    · exact hresult _ _ (hcommand _ c hs)
    · exact hresult _ r hs
    · exact htick _ _ now hs htick'
    · exact hreset _ hs

/-! The single operations (44_vm_operations.md R214, 40_varint.md R98, 41_cobsr.md R139, 42_crc8.md R159). -/

/-- Settles O46: `Inspect` writes nothing but its answer. -/
theorem inspectReturnsTheView : Obligations.InspectReturnsTheView := fun _ _ hinbox => step_of_inbox_cons hinbox

/-- Settles O47: each codec operation writes nothing but its unit's answer. -/
theorem codecOperationsTouchNoState : Obligations.CodecOperationsTouchNoState := by
  intro s ops
  exact ⟨fun _ => step_of_inbox_cons, fun _ _ => step_of_inbox_cons, fun _ => step_of_inbox_cons,
    fun _ => step_of_inbox_cons, fun _ => step_of_inbox_cons, fun _ => step_of_inbox_cons, fun _ => step_of_inbox_cons⟩

/-- Settles O50: reset writes `State.reset` over all but the clock and the inbox. -/
theorem resetLeavesTheResetState : Obligations.ResetLeavesTheResetState := by
  intro s ops hinbox
  exact ⟨_, step_of_inbox_cons hinbox, rfl, rfl, rfl, rfl, rfl, rfl, rfl, rfl, rfl, rfl, rfl, rfl, rfl, rfl, rfl, rfl, rfl⟩

/-! The receive path (45_receive_path.md R241 to R244, R247). -/

theorem rxBody_of_discarded {cap : Nat} {check : Bool} {frame : List Byte}
    (h : (cobsrDec cap frame).status ≠ .ok ∨ check = true ∧ crc8Check (cobsrDec cap frame).data = false) :
    rxBody cap check frame = none := by
  obtain ⟨q, hdec, -⟩ | ⟨hdec, -⟩ | ⟨hdec, -⟩ := cobsrDec_result_cases cap frame <;> simp only [rxBody, hdec]
  obtain hstatus | ⟨hcheck, hsum⟩ := h
  · exact absurd (by rw [hdec]) hstatus
  · simp only [hdec] at hsum
    simp [crcStage, hcheck, hsum]

theorem rxFrame_of_discarded {decCap : Nat} {check : Bool} {frame : List Byte} (h : rxBody decCap check frame = none)
    (bufCap : Nat) (cmdDecode : List Byte → Command) (s : State) : rxFrame decCap bufCap check cmdDecode frame s = s := by
  simp only [rxFrame, h]

theorem rxFrame_of_body {decCap : Nat} {check : Bool} {frame body : List Byte} (h : rxBody decCap check frame = some body)
    (bufCap : Nat) (cmdDecode : List Byte → Command) (s : State) :
    rxFrame decCap bufCap check cmdDecode frame s = runCommand bufCap (cmdDecode body) s := by
  simp only [rxFrame, h]

theorem step_rxFrame {s : State} {frame : List Byte} {ops : List Operation} (h : s.inbox = .rxFrame frame :: ops) :
    step s = .next (withResult .nothing
      (rxFrame Config.decCap Config.bufCap Config.crcEnable Config.cmdDecode frame (withInbox ops s))) :=
  step_of_inbox_cons h

/-- Settles O48: a frame that fails a stage carries no body, so no command runs. -/
theorem rxFrameDropsBadFrames : Obligations.RxFrameDropsBadFrames := by
  refine ⟨fun decCap bufCap check cmdDecode frame s h => rxFrame_of_discarded (rxBody_of_discarded h) bufCap cmdDecode s,
    fun s frame ops hinbox h => ?_⟩
  rw [step_rxFrame hinbox, rxFrame_of_discarded (rxBody_of_discarded h)]
  rfl

theorem crcStage_protected (check : Bool) (body : List Byte) :
    crcStage check (if check then protect body else body) = some body := by
  cases check with
  | false => rfl
  | true =>
    simp only [crcStage, crc8Check_protect, if_true]
    rw [protect, List.dropLast_concat]

/-- The frame a sender builds carries its body to the receiver: the two round trips, one after the other. -/
theorem rxBody_of_sent {encCap decCap : Nat} {check : Bool} {body frame : List Byte}
    (henc : cobsrEnc encCap (if check then protect body else body) = ⟨.ok, frame⟩)
    (hlen : (if check then protect body else body).length ≤ decCap) : rxBody decCap check frame = some body := by
  simp only [rxBody, cobsrDecodeOfEncode encCap decCap _ frame henc hlen, crcStage_protected]

/-- Settles O49: the body arrives, and its command is the machine's own operation. -/
theorem rxFrameDeliversTheBody : Obligations.RxFrameDeliversTheBody := by
  refine ⟨fun encCap decCap bufCap check cmdDecode body frame s henc hlen => ?_, fun s frame ops => step_rxFrame⟩
  rw [rxFrame_of_body (rxBody_of_sent henc hlen)]
  exact ⟨fun bytes h => by rw [h]; rfl, fun h => by rw [h]; rfl, fun h => by rw [h]; rfl, fun h => by rw [h]; rfl,
    fun h => by rw [h]; rfl⟩

/-! What a command changes (44_vm_operations.md R202 to R207). -/

/-- The program buffer changes only by an append, from `wp` up, while Idle. -/
theorem readByte_runCommand {cap : Nat} {c : Command} {s : State} {a : Nat}
    (h : readByte (runCommand cap c s).buf a ≠ readByte s.buf a) :
    s.run = .idle ∧ s.wp ≤ a ∧ a < (runCommand cap c s).wp ∧
      ∃ bytes, c = .appendInstruction bytes ∧ readByte (runCommand cap c s).buf a = bytes[a - s.wp]? ∧
        (runCommand cap c s).wp = s.wp + bytes.length := by
  obtain ⟨bytes, rfl, hc⟩ | ⟨-, hc⟩ | ⟨-, hc⟩ | ⟨-, hc⟩ | ⟨-, hc⟩ := runCommand_cases cap c s <;> rw [hc] at h ⊢
  · obtain ⟨hidle, -, -, hload⟩ | hload := load_cases cap bytes s <;> rw [hload] at h ⊢
    · rw [readByte_writeBytes] at h ⊢
      by_cases ha : s.wp ≤ a ∧ a < s.wp + bytes.length
      · exact ⟨hidle, ha.1, ha.2, bytes, rfl, if_pos ha, rfl⟩
      · exact absurd (if_neg ha) h
    · exact absurd rfl h
  · obtain ⟨-, hc⟩ | ⟨-, hc⟩ := clear_cases s <;> exact absurd (by rw [hc]) h
  · obtain ⟨-, hc⟩ | ⟨-, hc⟩ := start_cases s <;> exact absurd (by rw [hc]) h
  · obtain ⟨-, hc⟩ | ⟨-, hc⟩ := stop_cases s <;> exact absurd (by simp [hc]) h
  · exact absurd rfl h

/-- The run state changes only by `Start` and `Stop`. -/
theorem run_runCommand {cap : Nat} {c : Command} {s : State} (h : s.run ≠ (runCommand cap c s).run) :
    c = .start ∧ (runCommand cap c s).run = .executing ∨ c = .stop ∧ (runCommand cap c s).run = .idle := by
  obtain ⟨bytes, rfl, hc⟩ | ⟨-, hc⟩ | ⟨rfl, hc⟩ | ⟨rfl, hc⟩ | ⟨-, hc⟩ := runCommand_cases cap c s <;> rw [hc] at h ⊢
  · obtain ⟨-, -, -, hload⟩ | hload := load_cases cap bytes s <;> exact absurd (by rw [hload]) h
  · obtain ⟨-, hc⟩ | ⟨-, hc⟩ := clear_cases s <;> exact absurd (by rw [hc]) h
  · obtain ⟨-, hc⟩ | ⟨hrun, hc⟩ := start_cases s <;> rw [hc]
    · exact .inl ⟨rfl, rfl⟩
    · exact .inl ⟨rfl, hrun⟩
  · obtain ⟨-, hc⟩ | ⟨hrun, hc⟩ := stop_cases s <;> rw [hc]
    · exact .inr ⟨rfl, rfl⟩
    · exact .inr ⟨rfl, hrun⟩
  · exact absurd rfl h

theorem diag_runCommand (cap : Nat) (c : Command) (s : State) : (runCommand cap c s).diag = s.diag := by
  obtain ⟨bytes, -, hc⟩ | ⟨-, hc⟩ | ⟨-, hc⟩ | ⟨-, hc⟩ | ⟨-, hc⟩ := runCommand_cases cap c s <;> rw [hc]
  · obtain ⟨-, -, -, hload⟩ | hload := load_cases cap bytes s <;> rw [hload]
  · obtain ⟨-, hc⟩ | ⟨-, hc⟩ := clear_cases s <;> rw [hc]
  · obtain ⟨-, hc⟩ | ⟨-, hc⟩ := start_cases s <;> rw [hc]
  · obtain ⟨-, hc⟩ | ⟨-, hc⟩ := stop_cases s <;> rw [hc]
    rfl

/-! What a tick leaves unchanged (43_vm_instructions.md R170). -/

theorem exec_keeps {i : Instr} {s t : State} (h : exec i s = .next t) : t.wp = s.wp ∧ t.run = s.run ∧ t.buf = s.buf := by
  obtain ⟨u, -, hexec, -, hwp, hrun, -, -, hbuf, -⟩ := instructionsNeverWriteBufWpRun i s
  obtain rfl := Host.Outcome.next.inj (hexec.symm.trans h)
  exact ⟨hwp, hrun, hbuf⟩

theorem tick_keeps_buf {now : U32} {s t : State} (h : tick now s = .next t) : t.buf = s.buf := by
  obtain ⟨-, rfl⟩ | ⟨-, -, -, rfl⟩ | ⟨-, -, i, after, -, hexec⟩ | ⟨-, -, e, -, rfl⟩ := tick_next_cases h
  · rfl
  · rfl
  · exact (exec_keeps hexec).2.2
  · rfl

/-- Only the tick that finds the program at its end changes the run state. -/
theorem run_tick {now : U32} {s t : State} (h : tick now s = .next t) (hrun : s.run ≠ t.run) :
    t.run = .idle ∧ s.wp ≤ s.pc ∧ holding now s.holdStart s.holdTime = false := by
  obtain ⟨-, rfl⟩ | ⟨-, hhold, hend, rfl⟩ | ⟨-, -, i, after, -, hexec⟩ | ⟨-, -, e, -, rfl⟩ := tick_next_cases h
  · exact absurd rfl hrun
  · exact ⟨rfl, hend, hhold⟩
  · exact absurd (exec_keeps hexec).2.1.symm hrun
  · exact absurd rfl hrun

/-- An instruction only adds diagnostic bits. -/
theorem exec_diag {i : Instr} {s t : State} (h : exec i s = .next t) {e : DiagEvent} (he : diagSet e s.diag = true) :
    diagSet e t.diag = true := by
  have hraised (e' : DiagEvent) : diagSet e (withDiagBit e' s.diag) = true := by rw [diagSet_withDiagBit, he, Bool.true_or]
  obtain ⟨op, -, -, hexec⟩ | ⟨count, -, hexec⟩ | ⟨-, hexec⟩ | ⟨op, hold, -, -, -, hexec⟩ | ⟨mask, lits, hold, -, hexec⟩ :=
    exec_cases i s <;> obtain rfl := Host.Outcome.next.inj (hexec.symm.trans h)
  · exact hraised .badOpcode
  · obtain ⟨-, h⟩ | ⟨-, h⟩ := loopStart_cases Config.loopMaxDepth count s <;> rw [h]
    · exact he
    · exact hraised .loopOverflow
  · obtain ⟨-, h⟩ | ⟨-, -, h⟩ | ⟨-, -, h⟩ := loopEnd_cases s <;> rw [h]
    · exact hraised .loopUnderflow
    · exact he
    · exact he
  · exact he
  · exact he

theorem tick_diag {now : U32} {s t : State} (h : tick now s = .next t) {e : DiagEvent} (he : diagSet e s.diag = true) :
    diagSet e t.diag = true := by
  obtain ⟨-, rfl⟩ | ⟨-, -, -, rfl⟩ | ⟨-, -, i, after, -, hexec⟩ | ⟨-, -, e', -, rfl⟩ := tick_next_cases h
  · exact he
  · exact he
  · exact exec_diag hexec he
  · rw [truncated_diag, diagSet_withDiagBit]
    exact (congrArg (· || _) he).trans (Bool.true_or _)

/-! What every step keeps or changes. -/

theorem load_buf_wf {cap : Nat} {bytes : List Byte} {s : State} (h : Memory.wf s.buf = true) :
    Memory.wf (load cap bytes s).buf = true := by
  obtain ⟨-, -, -, hload⟩ | hload := load_cases cap bytes s <;> rw [hload]
  · exact writeBytes_wf bytes s.buf s.wp h
  · exact h

theorem runCommand_buf_wf {cap : Nat} {c : Command} {s : State} (h : Memory.wf s.buf = true) :
    Memory.wf (runCommand cap c s).buf = true := by
  obtain ⟨bytes, -, hc⟩ | ⟨-, hc⟩ | ⟨-, hc⟩ | ⟨-, hc⟩ | ⟨-, hc⟩ := runCommand_cases cap c s <;> rw [hc]
  · exact load_buf_wf h
  · obtain ⟨-, hc⟩ | ⟨-, hc⟩ := clear_cases s <;> rw [hc] <;> exact h
  · obtain ⟨-, hc⟩ | ⟨-, hc⟩ := start_cases s <;> rw [hc] <;> exact h
  · obtain ⟨-, hc⟩ | ⟨-, hc⟩ := stop_cases s <;> rw [hc] <;> exact h
  · exact h

/-- Settles O55: writes keep the canonical form, ticks keep the buffer, and reset empties it. -/
theorem stepKeepsTheBufferCanonical : Obligations.StepKeepsTheBufferCanonical := by
  intro s t hs h
  exact step_keeps (P := fun s => Memory.wf s.buf = true) (fun _ _ => id) (fun _ _ => id) (fun _ _ => runCommand_buf_wf)
    (fun _ _ _ hs htick => (tick_keeps_buf htick).symm ▸ hs) (fun _ _ => rfl) hs h

/-- The operation is a frame whose body holds the command. -/
def CarriesInFrame (op : Operation) (c : Command) : Prop :=
  ∃ frame body, op = .rxFrame frame ∧ rxBody Config.decCap Config.crcEnable frame = some body ∧ Config.cmdDecode body = c

theorem carries_appendInstruction {op : Operation} {bytes : List Byte} (h : Carries op (.appendInstruction bytes)) :
    op = .load bytes ∨ CarriesInFrame op (.appendInstruction bytes) := by
  cases h with
  | load => exact .inl rfl
  | frame hbody hc => exact .inr ⟨_, _, rfl, hbody, hc⟩

theorem carries_start {op : Operation} (h : Carries op .start) : op = .start ∨ CarriesInFrame op .start := by
  cases h with
  | start => exact .inl rfl
  | frame hbody hc => exact .inr ⟨_, _, rfl, hbody, hc⟩

theorem carries_stop {op : Operation} (h : Carries op .stop) : op = .stop ∨ CarriesInFrame op .stop := by
  cases h with
  | stop => exact .inl rfl
  | frame hbody hc => exact .inr ⟨_, _, rfl, hbody, hc⟩

/-- Settles O56: of the operations only a command, and of the commands only an append, writes the buffer. -/
theorem onlyLoadWritesTheBuffer : Obligations.OnlyLoadWritesTheBuffer := by
  intro s t op ops a hinbox hreset h hchanged
  rw [step_of_inbox_cons hinbox] at h
  obtain ⟨c, hcarries, rfl⟩ | ⟨r, rfl⟩ | ⟨now, -, htick⟩ | ⟨rfl, -⟩ := invoke_next_cases h
  · obtain ⟨hidle, hlow, hhigh, bytes, rfl, hread, hwp⟩ := readByte_runCommand (s := withInbox ops s) hchanged
    exact ⟨hidle, hlow, hhigh, bytes, hread, hwp, carries_appendInstruction hcarries⟩
  · exact absurd rfl hchanged
  · exact absurd (by rw [tick_keeps_buf htick]; rfl) hchanged
  · exact absurd rfl hreset

/-- Settles O57: of the commands only `Start` and `Stop` change the run state, of the ticks only the finishing one. -/
theorem runStateChangesOnlySo : Obligations.RunStateChangesOnlySo := by
  intro s t op ops hinbox h hchanged
  rw [step_of_inbox_cons hinbox] at h
  obtain ⟨c, hcarries, rfl⟩ | ⟨r, rfl⟩ | ⟨now, rfl, htick⟩ | ⟨rfl, rfl⟩ := invoke_next_cases h
  · obtain ⟨rfl, hrun⟩ | ⟨rfl, hrun⟩ := run_runCommand (s := withInbox ops s) hchanged
    · exact .inl ⟨hrun, carries_start hcarries⟩
    · exact .inr ⟨hrun, (carries_stop hcarries).imp_right fun hframe => .inr (.inl hframe)⟩
  · exact absurd rfl hchanged
  · obtain ⟨hrun, hend, hhold⟩ := run_tick htick hchanged
    exact .inr ⟨hrun, .inr (.inr (.inr ⟨now, rfl, hend, hhold⟩))⟩
  · exact .inr ⟨rfl, .inr (.inl rfl)⟩

/-- Settles O58: commands keep the diagnostic bits and a tick adds to them. -/
theorem diagnosticBitsAreSticky : Obligations.DiagnosticBitsAreSticky := by
  intro s t e hreset h he
  obtain ⟨-, hstep⟩ | ⟨op, ops, hinbox, hstep⟩ := step_cases s <;> rw [hstep] at h
  · exact Host.Outcome.next.inj h ▸ he
  obtain ⟨c, -, rfl⟩ | ⟨r, rfl⟩ | ⟨now, -, htick⟩ | ⟨rfl, -⟩ := invoke_next_cases h
  · rw [withResult_diag, diag_runCommand]
    exact he
  · exact he
  · exact tick_diag htick he
  · exact absurd (by rw [hinbox]; rfl) hreset

/-! Noninterference of the diagnostic bits (10_state.md R30). -/

/-- The state with other diagnostic bits. -/
def withDiag (d : BitVec 4) (s : State) : State := { s with diag := d }

/-- The function reads no diagnostic bit, except to write it. -/
def DiagBlind (f : State → State) : Prop := ∀ s d, ∃ d', f (withDiag d s) = withDiag d' (f s)

theorem runCommand_diagBlind (cap : Nat) (c : Command) : DiagBlind (runCommand cap c) := by
  intro s d
  refine ⟨d, ?_⟩
  cases c with
  | appendInstruction bytes =>
    rw [runCommand, load, runCommand, load, apply_ite (withDiag d)]
    rfl
  | clearProgram =>
    rw [runCommand, clear, runCommand, clear, apply_ite (withDiag d)]
    rfl
  | start =>
    rw [runCommand, start, runCommand, start, apply_ite (withDiag d)]
    rfl
  | stop =>
    rw [runCommand, stop, runCommand, stop, apply_ite (withDiag d)]
    rfl
  | nothing => rfl

theorem loopStart_diagBlind (max : Nat) (count : Varint) : DiagBlind (loopStart max count) := by
  intro s d
  by_cases h : s.depth < max
  · exact ⟨d, (loopStart_of_room (s := withDiag d s) h count).trans (congrArg (withDiag d) (loopStart_of_room h count).symm)⟩
  · have hfull := Nat.le_of_not_lt h
    exact ⟨withDiagBit .loopOverflow d,
      (loopStart_of_full (s := withDiag d s) hfull count).trans (congrArg (withDiag _) (loopStart_of_full hfull count).symm)⟩

theorem loopEnd_diagBlind : DiagBlind loopEnd := by
  intro s d
  by_cases hdepth : s.depth = 0
  · exact ⟨withDiagBit .loopUnderflow d,
      (loopEnd_of_empty (s := withDiag d s) hdepth).trans (congrArg (withDiag _) (loopEnd_of_empty hdepth).symm)⟩
  by_cases hcount : (topFrame s).count - 1 = 0
  · exact ⟨d, (loopEnd_of_last (s := withDiag d s) hdepth hcount).trans
      (congrArg (withDiag d) (loopEnd_of_last hdepth hcount).symm)⟩
  · exact ⟨d, (loopEnd_of_more (s := withDiag d s) hdepth hcount).trans
      (congrArg (withDiag d) (loopEnd_of_more hdepth hcount).symm)⟩

/-- Each instruction is one function of the state, which reads no diagnostic bit. -/
theorem exec_diagBlind (i : Instr) : ∃ f : State → State, (∀ s, exec i s = .next (f s)) ∧ DiagBlind f := by
  obtain ⟨count, rfl⟩ | rfl | ⟨mask, lits, hold, rfl⟩ | ⟨row, hrow, hold, rfl⟩ | ⟨row, hrow, rfl⟩ := instr_cases i
  · exact ⟨_, exec_loopstart count, loopStart_diagBlind _ count⟩
  · exact ⟨_, exec_loopend, loopEnd_diagBlind⟩
  · exact ⟨_, exec_cplx mask lits hold, fun _ d => ⟨d, rfl⟩⟩
  · exact ⟨_, (reportRow_spec row hrow).exec_eq hold, fun _ d => ⟨d, rfl⟩⟩
  · exact ⟨_, (invalidRow_spec row hrow).exec_eq, fun _ d => ⟨withDiagBit .badOpcode d, rfl⟩⟩

theorem fetchExecute_diagBlind {s t : State} (d : BitVec 4) (h : fetchExecute s = .next t) :
    ∃ d', fetchExecute (withDiag d s) = .next (withDiag d' t) := by
  cases hdecode : decode (fetchWindow s) with
  | ok read =>
    obtain ⟨i, after⟩ := read
    obtain ⟨f, hf, hblind⟩ := exec_diagBlind i
    rw [fetchExecute_of_ok hdecode, hf] at h
    obtain rfl := Host.Outcome.next.inj h
    obtain ⟨d', hd'⟩ := hblind s d
    exact ⟨d', (fetchExecute_of_ok (s := withDiag d s) hdecode).trans ((hf _).trans (congrArg _ hd'))⟩
  | error e =>
    rw [fetchExecute_of_error hdecode] at h
    have hwith := fetchExecute_of_error (s := withDiag d s) hdecode
    by_cases hcut : e = .fiveContinuations ∨ s.pc + (fetchWindow s).length = s.wp
    · obtain rfl := Host.Outcome.next.inj ((if_pos hcut).symm.trans h)
      exact ⟨withDiagBit .truncated d, hwith.trans (if_pos hcut)⟩
    · exact nomatch (if_neg hcut).symm.trans h

theorem tick_diagBlind {now : U32} {s t : State} (d : BitVec 4) (h : tick now s = .next t) :
    ∃ d', tick now (withDiag d s) = .next (withDiag d' t) := by
  obtain ⟨hidle, htick⟩ | ⟨hrun, hhold, htick⟩ | ⟨hrun, hhold, hend, htick⟩ | ⟨hrun, hhold, hpc, htick⟩ :=
    tick_cases now s <;> rw [htick] at h
  · exact ⟨d, Host.Outcome.next.inj h ▸ tick_of_idle (s := withDiag d s) hidle⟩
  · exact ⟨d, Host.Outcome.next.inj h ▸ tick_of_holding (s := withDiag d s) hrun hhold⟩
  · exact ⟨d, Host.Outcome.next.inj h ▸ tick_of_program_end (s := withDiag d s) hrun hhold hend⟩
  · obtain ⟨d', hd'⟩ := fetchExecute_diagBlind d h
    exact ⟨d', (tick_of_fetch (s := withDiag d s) hrun hhold hpc).trans hd'⟩

theorem invoke_diagBlind {op : Operation} {s t : State} (d : BitVec 4) (hop : op ≠ .inspect) (h : invoke op s = .next t) :
    ∃ d', invoke op (withDiag d s) = .next (withDiag d' t) := by
  obtain ⟨c, -, hinvoke⟩ | ⟨r, hinvoke⟩ | rfl | ⟨now, rfl⟩ | rfl := operation_cases op
  · rw [hinvoke] at h ⊢
    obtain rfl := Host.Outcome.next.inj h
    obtain ⟨d', hd'⟩ := runCommand_diagBlind Config.bufCap c s d
    exact ⟨d', by rw [hd']; rfl⟩
  · rw [hinvoke] at h ⊢
    obtain rfl := Host.Outcome.next.inj h
    exact ⟨d, rfl⟩
  · exact absurd rfl hop
  · exact tick_diagBlind d h
  · exact ⟨0, Host.Outcome.next.inj h ▸ rfl⟩

/-- Settles O59: whatever a step does with other diagnostic bits differs only in them. -/
theorem diagnosticsDoNotInterfere : Obligations.DiagnosticsDoNotInterfere := by
  intro s t d hinspect h
  suffices hblind : ∃ d', step (withDiag d s) = .next (withDiag d' t) by
    obtain ⟨d', hd'⟩ := hblind
    exact ⟨_, hd', rfl⟩
  obtain ⟨hinbox, hstep⟩ | ⟨op, ops, hinbox, hstep⟩ := step_cases s <;> rw [hstep] at h
  · obtain rfl := Host.Outcome.next.inj h
    exact ⟨d, by simp only [step, invokeNext, withDiag, hinbox]⟩
  · have hop : op ≠ .inspect := fun heq => hinspect (by rw [hinbox, heq]; rfl)
    obtain ⟨d', hd'⟩ := invoke_diagBlind d hop h
    exact ⟨d', (step_of_inbox_cons (s := withDiag d s) hinbox).trans hd'⟩

end Sys2Proof.Machine
end

section
/-! The invariant of the whole machine (10_state.md R34, R36, 44_vm_operations.md R231 to R235): every operation keeps it,
and from it every step goes on. -/

namespace Sys2Proof.Machine

open Sys2Proof.Safety

/-! Where an instruction moves the machine to (43_vm_instructions.md R170 to R180). -/

/-- An instruction moves past its own bytes, and may push or pop a frame there; or it resumes the top frame. -/
inductive Moves (i : Instr) (s t : State) : Prop where
  | past (hpc : t.pc = s.pc + (encode i).length) (hdepth : t.depth = s.depth) (hstack : t.lstack = s.lstack)
  | push (c : U32) (hc : 1 ≤ c.toNat) (hroom : s.depth < Config.loopMaxDepth) (hpc : t.pc = s.pc + (encode i).length)
      (hdepth : t.depth = s.depth + 1) (hstack : t.lstack = s.lstack.set s.depth ⟨c, t.pc⟩)
  | pop (hlive : s.depth ≠ 0) (hpc : t.pc = s.pc + (encode i).length) (hdepth : t.depth = s.depth - 1)
      (hstack : t.lstack = s.lstack)
  | resume (hlive : s.depth ≠ 0) (hcount : (topFrame s).count - 1 ≠ 0) (hpc : t.pc = (topFrame s).resume)
      (hdepth : t.depth = s.depth) (hstack : t.lstack = s.lstack.set (s.depth - 1) ⟨(topFrame s).count - 1, t.pc⟩)

theorem loopCount_pos (count : Varint) : 1 ≤ (loopCount count).toNat := by
  by_cases h : varintValue count = 0
  · rw [loopCount, if_pos h]
    decide
  · rw [loopCount, if_neg h]
    exact Nat.pos_of_ne_zero fun h0 => h (BitVec.eq_of_toNat_eq h0)

theorem exec_moves {i : Instr} {s t : State} (h : exec i s = .next t) : Moves i s t := by
  obtain ⟨op, hencode, -, hexec⟩ | ⟨count, rfl, hexec⟩ | ⟨rfl, hexec⟩ | ⟨op, hold, hencode, -, -, hexec⟩ |
    ⟨mask, lits, hold, rfl, hexec⟩ := exec_cases i s <;> obtain rfl := Host.Outcome.next.inj (hexec.symm.trans h)
  · exact .past (by rw [hencode]; rfl) rfl rfl
  · have hpc : s.pc + 1 + count.length = s.pc + (encode (.loopstart count)).length := by
      rw [encode_loopstart_length, Nat.add_assoc]
    obtain ⟨hroom, h⟩ | ⟨-, h⟩ := loopStart_cases Config.loopMaxDepth count s <;> rw [h]
    · exact .push (loopCount count) (loopCount_pos count) hroom hpc rfl rfl
    · exact .past hpc rfl rfl
  · obtain ⟨-, h⟩ | ⟨hlive, -, h⟩ | ⟨hlive, hcount, h⟩ := loopEnd_cases s <;> rw [h]
    · exact .past rfl rfl rfl
    · exact .pop hlive rfl rfl rfl
    · exact .resume hlive hcount rfl rfl rfl
  · refine .past ?_ rfl rfl
    rw [hencode, List.length_cons, encodeVarint_length, Nat.add_comm hold.length, ← Nat.add_assoc]
    rfl
  · refine .past ?_ rfl rfl
    rw [encode_cplx_length, ← Nat.add_assoc, ← Nat.add_assoc]
    rfl

/-! The live frames after each move (10_state.md R26). -/

section
variable {s t : State} {k : Nat} {f : LoopFrame}

theorem not_liveFrame_of_empty (h : s.depth = 0) : ¬ LiveFrame s k f := fun hlive => Nat.not_lt_zero k (h ▸ hlive.1)

theorem liveFrame_congr (hdepth : t.depth = s.depth) (hstack : t.lstack = s.lstack) : LiveFrame t k f ↔ LiveFrame s k f := by
  rw [LiveFrame, LiveFrame, hdepth, hstack]

theorem liveFrame_of_push {g : LoopFrame} (hdepth : t.depth = s.depth + 1) (hstack : t.lstack = s.lstack.set s.depth g)
    (h : LiveFrame t k f) : LiveFrame s k f ∨ k = s.depth ∧ f = g := by
  obtain ⟨hk, hf⟩ := h
  rw [hdepth] at hk
  rw [hstack] at hf
  by_cases heq : k = s.depth
  · subst heq
    have hlen : s.depth < s.lstack.length := by simpa using (List.getElem?_eq_some_iff.mp hf).1
    rw [List.getElem?_set_self hlen] at hf
    exact .inr ⟨rfl, (Option.some.inj hf).symm⟩
  · rw [List.getElem?_set_ne (Ne.symm heq)] at hf
    exact .inl ⟨by omega, hf⟩

theorem liveFrame_of_pop (hdepth : t.depth = s.depth - 1) (hstack : t.lstack = s.lstack) (h : LiveFrame t k f) :
    LiveFrame s k f := by
  obtain ⟨hk, hf⟩ := h
  exact ⟨by omega, hstack ▸ hf⟩

theorem liveFrame_of_setTop {g : LoopFrame} (hdepth : t.depth = s.depth) (hstack : t.lstack = s.lstack.set (s.depth - 1) g)
    (h : LiveFrame t k f) : (k < s.depth - 1 ∧ LiveFrame s k f) ∨ k = s.depth - 1 ∧ f = g := by
  obtain ⟨hk, hf⟩ := h
  rw [hdepth] at hk
  rw [hstack] at hf
  by_cases heq : k = s.depth - 1
  · subst heq
    have hlen : s.depth - 1 < s.lstack.length := by simpa using (List.getElem?_eq_some_iff.mp hf).1
    rw [List.getElem?_set_self hlen] at hf
    exact .inr ⟨rfl, (Option.some.inj hf).symm⟩
  · rw [List.getElem?_set_ne (Ne.symm heq)] at hf
    exact .inl ⟨by omega, hk, hf⟩

end

/-- The top frame is live. -/
theorem liveFrame_top {s : State} (h : Inv s) (hlive : s.depth ≠ 0) : LiveFrame s (s.depth - 1) (topFrame s) := by
  have hdepth := h.ranges.depth_le_max
  have hlen : s.depth - 1 < s.lstack.length := by
    rw [h.ranges.stack_size]
    omega
  refine ⟨by omega, ?_⟩
  rw [topFrame, List.getD_eq_getElem _ _ hlen, List.getElem?_eq_getElem hlen]

/-! What makes the invariant. -/

theorem bufferLoaded_congr {s t : State} (h : BufferLoaded s) (hbuf : t.buf = s.buf) (hwp : t.wp = s.wp) :
    BufferLoaded t := by
  refine ⟨hbuf ▸ h.canonical, fun a ha => ?_, fun a b hread => ?_⟩
  · rw [hbuf]
    exact h.loaded a (hwp ▸ ha)
  · exact h.bounded a b (hbuf ▸ hread)

/-- The invariant with its two conditions on resume positions in one: below `pc`, which is below `wp`. -/
theorem inv_of_parts {s : State} (hbuffer : BufferLoaded s) (hidle : IdleAtRest s) (hpc : s.pc ≤ s.wp)
    (hcap : s.wp ≤ Config.bufCap) (hdepth : s.depth ≤ Config.loopMaxDepth) (hsize : s.lstack.length = Config.loopMaxDepth)
    (hlive : ∀ k f, LiveFrame s k f → 1 ≤ f.count.toNat ∧ f.resume ≤ s.pc)
    (hrising : ∀ j k f g, LiveFrame s j f → LiveFrame s k g → j < k → f.resume < g.resume) : Inv s where
  ranges := ⟨hpc, hcap, hdepth, hsize, fun k f h => ⟨(hlive k f h).1, (hlive k f h).2.trans hpc⟩⟩
  idle := hidle
  buffer := hbuffer
  nested := ⟨hrising, fun k f h => (hlive k f h).2⟩

theorem inv_of_no_frames {s : State} (hbuffer : BufferLoaded s) (hidle : IdleAtRest s) (hpc : s.pc ≤ s.wp)
    (hcap : s.wp ≤ Config.bufCap) (hsize : s.lstack.length = Config.loopMaxDepth) (hempty : s.depth = 0) : Inv s :=
  inv_of_parts hbuffer hidle hpc hcap (hempty ▸ Nat.zero_le _) hsize (fun _ _ h => absurd h (not_liveFrame_of_empty hempty))
    fun _ _ _ _ h => absurd h (not_liveFrame_of_empty hempty)

/-- What the invariant does not speak of may change: the clock, the start of a hold, the diagnostic bits, the inbox, the
result; and of an Executing machine the hold time. -/
theorem inv_congr {s t : State} (h : Inv s) (hidle : IdleAtRest t) (hpc : t.pc = s.pc) (hwp : t.wp = s.wp)
    (hbuf : t.buf = s.buf) (hdepth : t.depth = s.depth) (hstack : t.lstack = s.lstack) : Inv t := by
  have hframe (k : Nat) (f : LoopFrame) : LiveFrame t k f ↔ LiveFrame s k f := liveFrame_congr hdepth hstack
  refine inv_of_parts (bufferLoaded_congr h.buffer hbuf hwp) hidle (hpc ▸ hwp ▸ h.ranges.pc_le_wp) (hwp ▸ h.ranges.wp_le_cap)
    (hdepth ▸ h.ranges.depth_le_max) (hstack ▸ h.ranges.stack_size) (fun k f hf => ?_) fun j k f g hf hg => ?_
  · have hf := (hframe k f).mp hf
    exact ⟨(h.ranges.live_frames k f hf).1, hpc ▸ h.nested.passed k f hf⟩
  · exact h.nested.rising j k f g ((hframe j f).mp hf) ((hframe k g).mp hg)

theorem idleAtRest_of_executing {s : State} (h : s.run = .executing) : IdleAtRest s := fun hidle => nomatch h.symm.trans hidle

/-- Every move of an Executing machine that stays below `wp` keeps the invariant. -/
theorem inv_of_moves {i : Instr} {s t : State} (h : Inv s) (hrun : t.run = .executing) (hwp : t.wp = s.wp)
    (hbuf : t.buf = s.buf) (hlen : s.pc + (encode i).length ≤ s.wp) (hmove : Moves i s t) : Inv t := by
  have hpos := encode_length_pos i
  have hidle := idleAtRest_of_executing hrun
  have hbuffer := bufferLoaded_congr h.buffer hbuf hwp
  have hcap : t.wp ≤ Config.bufCap := hwp ▸ h.ranges.wp_le_cap
  have hcount (k : Nat) (f : LoopFrame) (hf : LiveFrame s k f) := (h.ranges.live_frames k f hf).1
  cases hmove with
  | past hpc hdepth hstack =>
    refine inv_of_parts hbuffer hidle (by omega) hcap (hdepth ▸ h.ranges.depth_le_max) (hstack ▸ h.ranges.stack_size)
      (fun k f hf => ?_) fun j k f g hf hg => ?_
    · rw [liveFrame_congr hdepth hstack] at hf
      have := h.nested.passed k f hf
      exact ⟨hcount k f hf, by omega⟩
    · rw [liveFrame_congr hdepth hstack] at hf hg
      exact h.nested.rising j k f g hf hg
  | push c hc hroom hpc hdepth hstack =>
    refine inv_of_parts hbuffer hidle (by omega) hcap (by omega) (by rw [hstack, List.length_set, h.ranges.stack_size])
      (fun k f hf => ?_) fun j k f g hf hg hjk => ?_
    · obtain hf | ⟨-, rfl⟩ := liveFrame_of_push hdepth hstack hf
      · have := h.nested.passed k f hf
        exact ⟨hcount k f hf, by omega⟩
      · exact ⟨hc, Nat.le_refl _⟩
    · obtain hg | ⟨rfl, rfl⟩ := liveFrame_of_push hdepth hstack hg <;>
        obtain hf | ⟨rfl, -⟩ := liveFrame_of_push hdepth hstack hf
      · exact h.nested.rising j k f g hf hg hjk
      · exact absurd hg.1 (by omega)
      · have := h.nested.passed j f hf
        show f.resume < t.pc
        omega
      · exact absurd hjk (Nat.lt_irrefl _)
  | pop hlive hpc hdepth hstack =>
    have hmax := h.ranges.depth_le_max
    refine inv_of_parts hbuffer hidle (by omega) hcap (by omega) (hstack ▸ h.ranges.stack_size) (fun k f hf => ?_)
      fun j k f g hf hg => ?_
    · have hf := liveFrame_of_pop hdepth hstack hf
      have := h.nested.passed k f hf
      exact ⟨hcount k f hf, by omega⟩
    · exact h.nested.rising j k f g (liveFrame_of_pop hdepth hstack hf) (liveFrame_of_pop hdepth hstack hg)
  | resume hlive htop hpc hdepth hstack =>
    have htopLive := liveFrame_top h hlive
    have hpassed := h.nested.passed _ _ htopLive
    have htopCount : 1 ≤ ((topFrame s).count - 1).toNat :=
      Nat.pos_of_ne_zero fun h0 => htop (BitVec.eq_of_toNat_eq h0)
    refine inv_of_parts hbuffer hidle (by omega) hcap (hdepth ▸ h.ranges.depth_le_max)
      (by rw [hstack, List.length_set, h.ranges.stack_size]) (fun k f hf => ?_) fun j k f g hf hg hjk => ?_
    · obtain ⟨hk, hf⟩ | ⟨-, rfl⟩ := liveFrame_of_setTop hdepth hstack hf
      · exact ⟨hcount k f hf, hpc ▸ (h.nested.rising k _ f _ hf htopLive hk).le⟩
      · exact ⟨htopCount, Nat.le_refl _⟩
    · obtain ⟨hj, hf⟩ | ⟨rfl, rfl⟩ := liveFrame_of_setTop hdepth hstack hf <;>
        obtain ⟨hk, hg⟩ | ⟨rfl, rfl⟩ := liveFrame_of_setTop hdepth hstack hg
      · exact h.nested.rising j k f g hf hg hjk
      · show f.resume < t.pc
        rw [hpc]
        exact h.nested.rising j _ f _ hf htopLive hj
      · omega
      · exact absurd hjk (Nat.lt_irrefl _)

/-! Every operation keeps the invariant. -/

theorem inv_resetRun {s : State} (h : Inv s) : Inv (resetRun s) :=
  inv_of_no_frames (bufferLoaded_congr h.buffer rfl rfl) (fun _ => ⟨rfl, rfl, rfl⟩) (Nat.zero_le _) h.ranges.wp_le_cap
    h.ranges.stack_size rfl

theorem inv_applyReset (s : State) : Inv (applyReset s) :=
  inv_of_no_frames ⟨rfl, fun a h => absurd h (Nat.not_lt_zero a), nofun⟩ (fun _ => ⟨rfl, rfl, rfl⟩) (Nat.le_refl 0)
    (Nat.zero_le _) List.length_replicate rfl

theorem bufferLoaded_load {s : State} {bytes : List Byte} (h : BufferLoaded s) (hcap : s.wp + bytes.length ≤ Config.bufCap) :
    BufferLoaded { s with buf := writeBytes s.buf s.wp bytes, wp := s.wp + bytes.length } := by
  refine ⟨writeBytes_wf bytes s.buf s.wp h.canonical, fun a ha => ?_, fun a b hread => ?_⟩
  · rw [readByte_writeBytes]
    by_cases hnew : s.wp ≤ a ∧ a < s.wp + bytes.length
    · exact ⟨_, (if_pos hnew).trans (List.getElem?_eq_getElem (by omega))⟩
    · rw [if_neg hnew]
      exact h.loaded a (by have : a < s.wp + bytes.length := ha; omega)
  · rw [readByte_writeBytes] at hread
    by_cases hnew : s.wp ≤ a ∧ a < s.wp + bytes.length
    · omega
    · exact h.bounded a b ((if_neg hnew).symm.trans hread)

theorem inv_load {s : State} (h : Inv s) (bytes : List Byte) : Inv (load Config.bufCap bytes s) := by
  obtain ⟨hidle, -, hcap, hload⟩ | hload := load_cases Config.bufCap bytes s <;> rw [hload]
  · obtain ⟨hpc, hdepth, -⟩ := h.idle hidle
    exact inv_of_no_frames (bufferLoaded_load h.buffer hcap) h.idle (h.ranges.pc_le_wp.trans (Nat.le_add_right _ _)) hcap
      h.ranges.stack_size hdepth
  · exact h

theorem inv_clear {s : State} (h : Inv s) : Inv (clear s) := by
  obtain ⟨hidle, hclear⟩ | ⟨-, hclear⟩ := clear_cases s <;> rw [hclear]
  · obtain ⟨hpc, hdepth, -⟩ := h.idle hidle
    exact inv_of_no_frames ⟨h.buffer.canonical, fun a ha => absurd ha (Nat.not_lt_zero a), h.buffer.bounded⟩ h.idle hpc.le
      (Nat.zero_le _) h.ranges.stack_size hdepth
  · exact h

theorem inv_start {s : State} (h : Inv s) : Inv (start s) := by
  obtain ⟨-, hstart⟩ | ⟨-, hstart⟩ := start_cases s <;> rw [hstart]
  · exact inv_congr h (idleAtRest_of_executing rfl) rfl rfl rfl rfl rfl
  · exact h

theorem inv_stop {s : State} (h : Inv s) : Inv (stop s) := by
  obtain ⟨-, hstop⟩ | ⟨-, hstop⟩ := stop_cases s <;> rw [hstop]
  · exact inv_resetRun h
  · exact h

theorem inv_runCommand {s : State} (h : Inv s) (c : Command) : Inv (runCommand Config.bufCap c s) := by
  obtain ⟨bytes, -, hc⟩ | ⟨-, hc⟩ | ⟨-, hc⟩ | ⟨-, hc⟩ | ⟨-, hc⟩ := runCommand_cases Config.bufCap c s <;> rw [hc]
  · exact inv_load h bytes
  · exact inv_clear h
  · exact inv_start h
  · exact inv_stop h
  · exact h

/-- Before an instruction runs the clock is latched and the hold timer cleared. -/
theorem inv_beforeFetch {s : State} (h : Inv s) (hrun : s.run = .executing) (now : U32) :
    Inv (clearHold (latchClock now s)) :=
  inv_congr h (idleAtRest_of_executing hrun) rfl rfl rfl rfl rfl

theorem inv_exec {i : Instr} {s t : State} {after : List Byte} (h : Inv s) (hrun : s.run = .executing)
    (hdecode : decode (fetchWindow s) = .ok (i, after)) (hpc : s.pc < s.wp) (hexec : exec i s = .next t) : Inv t := by
  obtain ⟨-, hlen, -⟩ := (decode_fetchWindow_iff s i).mp ⟨after, hdecode⟩
  obtain ⟨hwp, hrun', hbuf⟩ := exec_keeps hexec
  exact inv_of_moves h (hrun'.trans hrun) hwp hbuf (by omega) (exec_moves hexec)

theorem inv_truncated {s : State} (h : Inv s) (hrun : s.run = .executing) : Inv (truncated s) := by
  have hpc := h.ranges.pc_le_wp
  refine inv_of_parts (bufferLoaded_congr h.buffer rfl rfl) (idleAtRest_of_executing hrun) (Nat.le_refl _) h.ranges.wp_le_cap
    h.ranges.depth_le_max h.ranges.stack_size (fun k f hf => ?_) h.nested.rising
  exact ⟨(h.ranges.live_frames k f hf).1, (h.nested.passed k f hf).trans hpc⟩

theorem inv_tick {s t : State} {now : U32} (h : Inv s) (htick : tick now s = .next t) : Inv t := by
  obtain ⟨-, rfl⟩ | ⟨hrun, -, -, rfl⟩ | ⟨hrun, hpc, i, after, hdecode, hexec⟩ | ⟨hrun, -, e, -, rfl⟩ := tick_next_cases htick
  · exact inv_congr h h.idle rfl rfl rfl rfl rfl
  · exact inv_congr (inv_resetRun (inv_beforeFetch h hrun now)) (fun _ => ⟨rfl, rfl, rfl⟩) rfl rfl rfl rfl rfl
  · exact inv_exec (inv_beforeFetch h hrun now) hrun hdecode hpc hexec
  · exact inv_truncated (inv_beforeFetch h hrun now) hrun

theorem inv_withInbox {s : State} (h : Inv s) (ops : List Operation) : Inv (withInbox ops s) :=
  inv_congr h h.idle rfl rfl rfl rfl rfl

theorem inv_withResult {s : State} (h : Inv s) (r : Result) : Inv (withResult r s) :=
  inv_congr h h.idle rfl rfl rfl rfl rfl

theorem inv_step {s t : State} (h : Inv s) (hstep : step s = .next t) : Inv t :=
  step_keeps (fun _ ops h => inv_withInbox h ops) (fun _ r h => inv_withResult h r) (fun _ c h => inv_runCommand h c)
    (fun _ _ _ h htick => inv_tick h htick) (fun s _ => inv_applyReset s) h hstep

/-- Settles O52: the commands, a tick and reset each keep the invariant. -/
theorem stepKeepsTheInvariant : Obligations.StepKeepsTheInvariant := fun _ _ h hstep => inv_step h hstep

/-! From the invariant every step goes on. -/

theorem programWritten_of_inv {s : State} (h : Inv s) : ProgramWritten s := fun a _ ha => h.buffer.loaded a ha

theorem exec_goes (i : Instr) (s : State) : Goes (exec i s) := by
  obtain ⟨t, -, hexec, -⟩ := instructionsNeverWriteBufWpRun i s
  exact ⟨t, hexec⟩

theorem fetch_goes_of_inv {s : State} (h : Inv s) : Goes (fetchExecute s) := by
  cases hdecode : decode (fetchWindow s) with
  | ok read =>
    rw [fetchExecute_of_ok hdecode]
    exact exec_goes _ s
  | error e => exact ⟨_, fetchExecute_of_written (programWritten_of_inv h) h.ranges.pc_le_wp hdecode⟩

theorem tick_goes_of_inv {s : State} (h : Inv s) (now : U32) : Goes (tick now s) := by
  obtain ⟨-, htick⟩ | ⟨-, -, htick⟩ | ⟨-, -, -, htick⟩ | ⟨hrun, -, -, htick⟩ := tick_cases now s <;> rw [htick]
  · exact ⟨_, rfl⟩
  · exact ⟨_, rfl⟩
  · exact ⟨_, rfl⟩
  · exact fetch_goes_of_inv (inv_beforeFetch h hrun now)

theorem invoke_goes_of_inv {s : State} (h : Inv s) (op : Operation) : Goes (invoke op s) := by
  obtain ⟨c, -, hinvoke⟩ | ⟨r, hinvoke⟩ | rfl | ⟨now, rfl⟩ | rfl := operation_cases op
  · exact ⟨_, hinvoke s⟩
  · exact ⟨_, hinvoke s⟩
  · exact ⟨_, rfl⟩
  · exact tick_goes_of_inv h now
  · exact ⟨_, rfl⟩

theorem step_goes_of_inv {s : State} (h : Inv s) : Goes (step s) := by
  obtain ⟨-, hstep⟩ | ⟨op, ops, -, hstep⟩ := step_cases s <;> rw [hstep]
  · exact ⟨s, rfl⟩
  · exact invoke_goes_of_inv (inv_withInbox h ops) op

/-- Settles O54: only a byte that nothing has written could stop a step, and below `wp` there is none. -/
theorem stepAlwaysAnswersANextState : Obligations.StepAlwaysAnswersANextState := by
  intro s h
  obtain ⟨t, hstep⟩ := step_goes_of_inv h
  exact ⟨t, hstep, inv_step h hstep⟩

end Sys2Proof.Machine
end

section
/-! Program well-formedness (44_vm_operations.md R231): the machine reads a program as the instructions it was loaded with,
and `pc` and every resume position stay on their boundaries. -/

namespace Sys2Proof.Machine

open Sys2Proof.Safety

/-! Boundaries of a program (30_encoding.md R78). -/

theorem programBytes_append (is js : List Instr) : programBytes (is ++ js) = programBytes is ++ programBytes js :=
  List.flatMap_append

theorem boundary_zero (is : List Instr) : Boundary is 0 := ⟨0, Nat.zero_le _, rfl⟩

theorem boundary_append {is : List Instr} {p : Nat} (h : Boundary is p) (js : List Instr) : Boundary (is ++ js) p := by
  obtain ⟨k, hk, hp⟩ := h
  exact ⟨k, by rw [List.length_append]; omega, by rw [List.take_append_of_le_length hk, hp]⟩

/-- Below the end of the program a boundary is where one of its instructions starts, and the next boundary is after it. -/
theorem instr_at_boundary {is : List Instr} {p : Nat} (h : Boundary is p) (hp : p < (programBytes is).length) :
    ∃ i ∈ is, p + (encode i).length ≤ (programBytes is).length ∧ Boundary is (p + (encode i).length) ∧
      ∀ j, j < (encode i).length → (programBytes is)[p + j]? = (encode i)[j]? := by
  obtain ⟨k, hk, rfl⟩ := h
  have hlt : k < is.length := by
    refine Nat.lt_of_le_of_ne hk fun heq => ?_
    rw [heq, List.take_length] at hp
    exact Nat.lt_irrefl _ hp
  have hnext : programBytes (is.take (k + 1)) = programBytes (is.take k) ++ encode is[k] := by
    rw [List.take_succ_eq_append_getElem hlt, programBytes_append]
    simp [programBytes]
  have hall : programBytes is = programBytes (is.take k) ++ (encode is[k] ++ programBytes (is.drop (k + 1))) := by
    rw [← List.append_assoc, ← hnext, ← programBytes_append, List.take_append_drop]
  refine ⟨is[k], List.getElem_mem hlt, ?_, ⟨k + 1, hlt, by rw [hnext, List.length_append]⟩, fun j hj => ?_⟩
  · rw [hall, List.length_append, List.length_append]
    omega
  · rw [hall, List.getElem?_append_right (Nat.le_add_right _ _), Nat.add_sub_cancel_left, List.getElem?_append_left hj]

/-! A program in the machine. -/

/-- The machine runs the program of these instructions: `ProgramWellFormed` with its instructions named. -/
structure RunsProgram (is : List Instr) (s : State) : Prop where
  instrs : ∀ i ∈ is, i.wf = true ∧ i.loadable = true
  wp_eq : s.wp = (programBytes is).length
  bytes : ∀ a, a < s.wp → readByte s.buf a = (programBytes is)[a]?
  pc : Boundary is s.pc
  resumes : ∀ k f, LiveFrame s k f → Boundary is f.resume
  noBadOpcode : diagSet .badOpcode s.diag = false
  notTruncated : diagSet .truncated s.diag = false

theorem programWellFormed_iff (s : State) : ProgramWellFormed s ↔ ∃ is, RunsProgram is s :=
  ⟨fun ⟨is, hinstrs, hwp, hbytes, hpc, hresumes, hbad, htrunc⟩ => ⟨is, hinstrs, hwp, hbytes, hpc, hresumes, hbad, htrunc⟩,
    fun ⟨is, h⟩ => ⟨is, h.instrs, h.wp_eq, h.bytes, h.pc, h.resumes, h.noBadOpcode, h.notTruncated⟩⟩

/-- With no live frame, and what is loaded unchanged, only `pc` has to stay on a boundary. -/
theorem RunsProgram.of_no_frames {is : List Instr} {s t : State} (h : RunsProgram is s) (hwp : t.wp = s.wp)
    (hbuf : t.buf = s.buf) (hdiag : t.diag = s.diag) (hpc : Boundary is t.pc) (hempty : t.depth = 0) : RunsProgram is t where
  instrs := h.instrs
  wp_eq := hwp.trans h.wp_eq
  bytes := fun a ha => hbuf ▸ h.bytes a (hwp ▸ ha)
  pc := hpc
  resumes := fun _ _ hlive => absurd hlive (not_liveFrame_of_empty hempty)
  noBadOpcode := hdiag ▸ h.noBadOpcode
  notTruncated := hdiag ▸ h.notTruncated

theorem RunsProgram.congr {is : List Instr} {s t : State} (h : RunsProgram is s) (hwp : t.wp = s.wp) (hbuf : t.buf = s.buf)
    (hdiag : t.diag = s.diag) (hpc : t.pc = s.pc) (hdepth : t.depth = s.depth) (hstack : t.lstack = s.lstack) :
    RunsProgram is t where
  instrs := h.instrs
  wp_eq := hwp.trans h.wp_eq
  bytes := fun a ha => hbuf ▸ h.bytes a (hwp ▸ ha)
  pc := hpc ▸ h.pc
  resumes := fun k f hlive => h.resumes k f ((liveFrame_congr hdepth hstack).mp hlive)
  noBadOpcode := hdiag ▸ h.noBadOpcode
  notTruncated := hdiag ▸ h.notTruncated

theorem runsProgram_nil {s : State} (hwp : s.wp = 0) (hpc : s.pc = 0) (hempty : s.depth = 0)
    (hbad : diagSet .badOpcode s.diag = false) (htrunc : diagSet .truncated s.diag = false) : RunsProgram [] s where
  instrs := fun _ h => absurd h List.not_mem_nil
  wp_eq := hwp
  bytes := fun a ha => absurd (hwp ▸ ha) (Nat.not_lt_zero a)
  pc := hpc ▸ boundary_zero []
  resumes := fun _ _ hlive => absurd hlive (not_liveFrame_of_empty hempty)
  noBadOpcode := hbad
  notTruncated := htrunc

/-- The fetch reads the program's instruction at `pc`. -/
theorem RunsProgram.fetch {is : List Instr} {s : State} (h : RunsProgram is s) (hpc : s.pc < s.wp) :
    ∃ i ∈ is, Boundary is (s.pc + (encode i).length) ∧ ∃ after, decode (fetchWindow s) = .ok (i, after) := by
  obtain ⟨i, hi, hlen, hnext, hread⟩ := instr_at_boundary h.pc (h.wp_eq ▸ hpc)
  rw [← h.wp_eq] at hlen
  refine ⟨i, hi, hnext, (decode_fetchWindow_iff s i).mpr ⟨(h.instrs i hi).1, by omega, fun k hk => ?_⟩⟩
  rw [h.bytes _ (by omega), hread k hk]

/-- A loadable instruction sets neither `BAD_OPCODE` nor `TRUNCATED`. -/
theorem exec_diag_of_loadable {i : Instr} {s t : State} (hload : i.loadable = true) (h : exec i s = .next t) :
    diagSet .badOpcode t.diag = diagSet .badOpcode s.diag ∧ diagSet .truncated t.diag = diagSet .truncated s.diag := by
  obtain ⟨op, hencode, hop, -⟩ | ⟨count, -, hexec⟩ | ⟨-, hexec⟩ | ⟨op, hold, -, -, -, hexec⟩ | ⟨mask, lits, hold, -, hexec⟩ :=
    exec_cases i s
  · rw [loadable_of_encode hencode, hop] at hload
    exact nomatch hload
  all_goals obtain rfl := Host.Outcome.next.inj (hexec.symm.trans h)
  · obtain ⟨-, h⟩ | ⟨-, h⟩ := loopStart_cases Config.loopMaxDepth count s <;> simp [h, diagSet_withDiagBit]
  · obtain ⟨-, h⟩ | ⟨-, -, h⟩ | ⟨-, -, h⟩ := loopEnd_cases s <;> simp [h, diagSet_withDiagBit]
  · exact ⟨rfl, rfl⟩
  · exact ⟨rfl, rfl⟩

/-- A move past the instruction at `pc` ends on the next boundary; a resume ends on the boundary the frame holds. -/
theorem boundaries_of_moves {is : List Instr} {i : Instr} {s t : State} (hinv : Inv s) (h : RunsProgram is s)
    (hnext : Boundary is (s.pc + (encode i).length)) (hmove : Moves i s t) :
    Boundary is t.pc ∧ ∀ k f, LiveFrame t k f → Boundary is f.resume := by
  cases hmove with
  | past hpc hdepth hstack =>
    exact ⟨hpc ▸ hnext, fun k f hf => h.resumes k f ((liveFrame_congr hdepth hstack).mp hf)⟩
  | push c _ _ hpc hdepth hstack =>
    have hhere : Boundary is t.pc := hpc ▸ hnext
    refine ⟨hhere, fun k f hf => ?_⟩
    obtain hf | ⟨-, rfl⟩ := liveFrame_of_push hdepth hstack hf
    · exact h.resumes k f hf
    · exact hhere
  | pop _ hpc hdepth hstack =>
    exact ⟨hpc ▸ hnext, fun k f hf => h.resumes k f (liveFrame_of_pop hdepth hstack hf)⟩
  | resume hlive _ hpc hdepth hstack =>
    have hhere : Boundary is t.pc := hpc ▸ h.resumes _ _ (liveFrame_top hinv hlive)
    refine ⟨hhere, fun k f hf => ?_⟩
    obtain ⟨-, hf⟩ | ⟨-, rfl⟩ := liveFrame_of_setTop hdepth hstack hf
    · exact h.resumes k f hf
    · exact hhere

theorem RunsProgram.exec {is : List Instr} {i : Instr} {s t : State} (hinv : Inv s) (h : RunsProgram is s) (hi : i ∈ is)
    (hnext : Boundary is (s.pc + (encode i).length)) (hexec : exec i s = .next t) : RunsProgram is t := by
  obtain ⟨hwp, -, hbuf⟩ := exec_keeps hexec
  obtain ⟨hpc, hresumes⟩ := boundaries_of_moves hinv h hnext (exec_moves hexec)
  obtain ⟨hbad, htrunc⟩ := exec_diag_of_loadable (h.instrs i hi).2 hexec
  exact ⟨h.instrs, hwp.trans h.wp_eq, fun a ha => hbuf ▸ h.bytes a (hwp ▸ ha), hpc, hresumes, hbad.trans h.noBadOpcode,
    htrunc.trans h.notTruncated⟩

theorem RunsProgram.tick {is : List Instr} {s t : State} {now : U32} (hinv : Inv s) (h : RunsProgram is s)
    (htick : tick now s = .next t) : RunsProgram is t := by
  have hsame : RunsProgram is (clearHold (latchClock now s)) := h.congr rfl rfl rfl rfl rfl rfl
  obtain ⟨-, rfl⟩ | ⟨-, -, -, rfl⟩ | ⟨hrun, hpc, i, after, hdecode, hexec⟩ | ⟨-, hpc, e, hdecode, -⟩ := tick_next_cases htick
  · exact h.congr rfl rfl rfl rfl rfl rfl
  · exact h.of_no_frames rfl rfl rfl (boundary_zero is) rfl
  · obtain ⟨j, hj, hnext, after', hdecode'⟩ := h.fetch hpc
    obtain ⟨rfl, -⟩ := Prod.mk.inj (Except.ok.inj (hdecode.symm.trans hdecode'))
    exact hsame.exec (inv_beforeFetch hinv hrun now) hj hnext hexec
  · obtain ⟨j, -, -, after', hdecode'⟩ := h.fetch hpc
    exact nomatch hdecode.symm.trans hdecode'

/-- What `Load` accepts is the encoding of one loadable instruction (30_encoding.md R71). -/
theorem exists_instr_of_instrSize {bytes : List Byte} (h : instrSize bytes bytes.length = some bytes.length) :
    ∃ i : Instr, i.wf = true ∧ i.loadable = true ∧ bytes = encode i := by
  obtain ⟨i, rest, hdecode, hload, hlen⟩ := (instrSizeIsDecodedLength bytes bytes.length).mp h
  obtain ⟨hwf, hbytes⟩ := encode_of_decode hdecode
  have hrest : rest = [] := by
    rw [← hbytes, List.length_append] at hlen
    exact List.length_eq_zero_iff.mp (by omega)
  exact ⟨i, hwf, hload, by rw [← hbytes, hrest, List.append_nil]⟩

/-- An append puts one more instruction at the end of the program. -/
theorem RunsProgram.append {is : List Instr} {i : Instr} {s : State} (h : RunsProgram is s) (hwf : i.wf = true)
    (hload : i.loadable = true) :
    RunsProgram (is ++ [i]) { s with buf := writeBytes s.buf s.wp (encode i), wp := s.wp + (encode i).length } := by
  have hbytes : programBytes (is ++ [i]) = programBytes is ++ encode i := by
    rw [programBytes_append]
    simp [programBytes]
  refine ⟨fun j hj => ?_, ?_, fun a ha => ?_, boundary_append h.pc [i], fun k f hf => boundary_append (h.resumes k f hf) [i],
    h.noBadOpcode, h.notTruncated⟩
  · obtain hj | rfl := (List.mem_append.mp hj).imp_right List.mem_singleton.mp
    · exact h.instrs j hj
    · exact ⟨hwf, hload⟩
  · rw [hbytes, List.length_append, ← h.wp_eq]
  · have ha : a < s.wp + (encode i).length := ha
    rw [readByte_writeBytes, hbytes]
    by_cases hnew : s.wp ≤ a
    · rw [if_pos ⟨hnew, ha⟩, List.getElem?_append_right (h.wp_eq ▸ hnew), h.wp_eq]
    · rw [if_neg (fun hin => hnew hin.1), List.getElem?_append_left (by rw [← h.wp_eq]; omega)]
      exact h.bytes a (Nat.lt_of_not_le hnew)

theorem programWellFormed_runCommand {s : State} (hinv : Inv s) (h : ProgramWellFormed s) (cap : Nat) (c : Command) :
    ProgramWellFormed (runCommand cap c s) := by
  rw [programWellFormed_iff] at h ⊢
  obtain ⟨is, his⟩ := h
  obtain ⟨bytes, -, hc⟩ | ⟨-, hc⟩ | ⟨-, hc⟩ | ⟨-, hc⟩ | ⟨-, hc⟩ := runCommand_cases cap c s <;> rw [hc]
  · obtain ⟨-, hsize, -, hload⟩ | hload := load_cases cap bytes s <;> rw [hload]
    · obtain ⟨i, hwf, hloadable, rfl⟩ := exists_instr_of_instrSize hsize
      exact ⟨is ++ [i], his.append hwf hloadable⟩
    · exact ⟨is, his⟩
  · obtain ⟨hidle, hc⟩ | ⟨-, hc⟩ := clear_cases s <;> rw [hc]
    · obtain ⟨hpc, hdepth, -⟩ := hinv.idle hidle
      exact ⟨[], runsProgram_nil rfl hpc hdepth his.noBadOpcode his.notTruncated⟩
    · exact ⟨is, his⟩
  · obtain ⟨-, hc⟩ | ⟨-, hc⟩ := start_cases s <;> rw [hc]
    · exact ⟨is, his.congr rfl rfl rfl rfl rfl rfl⟩
    · exact ⟨is, his⟩
  · obtain ⟨-, hc⟩ | ⟨-, hc⟩ := stop_cases s <;> rw [hc]
    · exact ⟨is, his.of_no_frames rfl rfl rfl (boundary_zero is) rfl⟩
    · exact ⟨is, his⟩
  · exact ⟨is, his⟩

theorem diagSet_zero (e : DiagEvent) : diagSet e 0 = false := BitVec.getLsbD_zero

theorem programWellFormed_applyReset (s : State) : ProgramWellFormed (applyReset s) :=
  (programWellFormed_iff _).mpr ⟨[], runsProgram_nil rfl rfl rfl (diagSet_zero _) (diagSet_zero _)⟩

theorem programWellFormed_tick {s t : State} {now : U32} (hinv : Inv s) (h : ProgramWellFormed s)
    (htick : tick now s = .next t) : ProgramWellFormed t := by
  obtain ⟨is, his⟩ := (programWellFormed_iff s).mp h
  exact (programWellFormed_iff t).mpr ⟨is, his.tick hinv htick⟩

/-- Settles O53: kept together with the invariant, which puts an Idle machine at rest and makes a resume position a live
frame's. -/
theorem stepKeepsTheProgramWellFormed : Obligations.StepKeepsTheProgramWellFormed := by
  intro s t hinv h hstep
  refine (step_keeps (P := fun s => Inv s ∧ ProgramWellFormed s) (fun _ ops h => ⟨inv_withInbox h.1 ops, h.2⟩)
    (fun _ r h => ⟨inv_withResult h.1 r, h.2⟩) (fun _ c h => ⟨inv_runCommand h.1 c, programWellFormed_runCommand h.1 h.2 _ c⟩)
    (fun _ _ _ h htick => ⟨inv_tick h.1 htick, programWellFormed_tick h.1 h.2 htick⟩)
    (fun s _ => ⟨inv_applyReset s, programWellFormed_applyReset s⟩) ⟨hinv, h⟩ hstep).2

/-- Settles O51: with any inbox the reset state is what a reset leaves. -/
theorem resetSatisfiesTheInvariants : Obligations.ResetSatisfiesTheInvariants :=
  fun ops => ⟨inv_applyReset { State.reset with inbox := ops },
    programWellFormed_applyReset { State.reset with inbox := ops }⟩

end Sys2Proof.Machine
end

section
/-! Every run finishes (44_vm_operations.md R234). The number of instructions still to run is bounded: the bytes ahead of `pc`
are run once, and for each live frame the bytes after its resume position once more for every count left. A push is paid for
by the bytes it moves past, because a count is below 2^32. -/

namespace Sys2Proof.Machine

open Sys2Proof.Safety

/-- A bound on the instructions run from a position with `n` bytes ahead of it and no frame live: after the first, at most
2^32 times what the bytes after it take. -/
def runBound : Nat → Nat
  | 0 => 0
  | n + 1 => 2 ^ 32 * runBound n + 1

theorem runBound_lt_succ (n : Nat) : 2 ^ 32 * runBound n < runBound (n + 1) := Nat.lt_succ_self _

theorem runBound_strictMono : StrictMono runBound := by
  refine strictMono_nat_of_lt_succ fun n => Nat.lt_of_le_of_lt ?_ (runBound_lt_succ n)
  exact Nat.le_mul_of_pos_left _ (by decide)

/-- What a live frame adds: its loop body, and what follows, for each count but the one under way. -/
def frameBound (wp : Nat) (f : LoopFrame) : Nat := (f.count.toNat - 1) * runBound (wp - f.resume)

/-- What a stack of live frames adds. -/
def framesBound (wp : Nat) (frames : List LoopFrame) : Nat := (frames.map (frameBound wp)).sum

theorem framesBound_snoc (wp : Nat) (frames : List LoopFrame) (f : LoopFrame) :
    framesBound wp (frames ++ [f]) = framesBound wp frames + frameBound wp f := by
  simp [framesBound]

/-- A bound on the instructions an Executing machine still runs. -/
def instructionsLeft (s : State) : Nat := runBound (s.wp - s.pc) + framesBound s.wp (s.lstack.take s.depth)

theorem take_succ_set {frames : List LoopFrame} {d : Nat} (h : d < frames.length) (f : LoopFrame) :
    (frames.set d f).take (d + 1) = frames.take d ++ [f] := by
  rw [List.take_add_one, List.getElem?_set_self h, List.take_set_of_le (Nat.le_refl d)]
  rfl

/-- The live frames are those below the top one, and the top one. -/
theorem take_depth_eq_snoc {s : State} (hinv : Inv s) (hlive : s.depth ≠ 0) :
    s.lstack.take s.depth = s.lstack.take (s.depth - 1) ++ [topFrame s] := by
  obtain ⟨d, hd⟩ := Nat.exists_eq_succ_of_ne_zero hlive
  have htop := (liveFrame_top hinv hlive).2
  rw [hd, Nat.succ_sub_one] at htop ⊢
  rw [List.take_add_one, htop]
  rfl

theorem once_and_rest {c : Nat} (hc : 1 ≤ c) (b : Nat) : b + (c - 1) * b = c * b := by
  rw [Nat.add_comm, ← Nat.succ_mul, Nat.succ_eq_add_one, Nat.sub_add_cancel hc]

/-- Every move of the machine inside its program leaves fewer instructions to run. -/
theorem instructionsLeft_lt_of_moves {i : Instr} {s t : State} (hinv : Inv s) (hpc : s.pc < s.wp) (hwp : t.wp = s.wp)
    (hmove : Moves i s t) : instructionsLeft t < instructionsLeft s := by
  have hpos := encode_length_pos i
  have hahead (p : Nat) (hp : s.pc < p) : runBound (s.wp - p) < runBound (s.wp - s.pc) := runBound_strictMono (by omega)
  rw [instructionsLeft, instructionsLeft, hwp]
  cases hmove with
  | past hnext hdepth hstack =>
    rw [hdepth, hstack]
    exact Nat.add_lt_add_right (hahead t.pc (by omega)) _
  | push c hc hroom hnext hdepth hstack =>
    have hcost : runBound (s.wp - t.pc) + frameBound s.wp ⟨c, t.pc⟩ < runBound (s.wp - s.pc) :=
      calc runBound (s.wp - t.pc) + frameBound s.wp ⟨c, t.pc⟩
          = c.toNat * runBound (s.wp - t.pc) := once_and_rest hc _
        _ ≤ 2 ^ 32 * runBound (s.wp - t.pc) := Nat.mul_le_mul_right _ c.isLt.le
        _ < runBound (s.wp - t.pc + 1) := runBound_lt_succ _
        _ ≤ runBound (s.wp - s.pc) := runBound_strictMono.monotone (by omega)
    rw [hdepth, hstack, take_succ_set (hinv.ranges.stack_size ▸ hroom), framesBound_snoc]
    omega
  | pop hlive hnext hdepth hstack =>
    have := hahead t.pc (by omega)
    rw [hdepth, hstack, take_depth_eq_snoc hinv hlive, framesBound_snoc]
    omega
  | resume hlive hcount hnext hdepth hstack =>
    have htop := liveFrame_top hinv hlive
    have hsize : s.depth - 1 < s.lstack.length := (List.getElem?_eq_some_iff.mp htop.2).1
    have hpred := count_sub_one_toNat (hinv.ranges.live_frames _ _ htop).1
    have hagain : 1 ≤ (topFrame s).count.toNat - 1 :=
      hpred ▸ Nat.pos_of_ne_zero fun h0 => hcount (BitVec.eq_of_toNat_eq h0)
    have htake : t.lstack.take t.depth = s.lstack.take (s.depth - 1) ++ [⟨(topFrame s).count - 1, t.pc⟩] := by
      rw [hdepth, hstack, ← take_succ_set hsize, Nat.sub_add_cancel (Nat.pos_of_ne_zero hlive)]
    have hbody : runBound (s.wp - t.pc) + frameBound s.wp ⟨(topFrame s).count - 1, t.pc⟩ = frameBound s.wp (topFrame s) := by
      rw [frameBound, frameBound, hpred, ← hnext, once_and_rest hagain]
    have hhere : runBound 0 < runBound (s.wp - s.pc) := runBound_strictMono (by omega)
    rw [htake, take_depth_eq_snoc hinv hlive, framesBound_snoc, framesBound_snoc, ← hbody]
    omega

/-! Ticks in a row. -/

theorem instructionsLeft_truncated_lt {s : State} (hpc : s.pc < s.wp) :
    instructionsLeft (truncated s) < instructionsLeft s :=
  Nat.add_lt_add_right (runBound_strictMono (show s.wp - s.wp < s.wp - s.pc by omega)) _

/-- A tick of an Executing machine ends the run or leaves no more to run, and less where no hold is in force. -/
theorem tick_progress {s t : State} {now : U32} (hinv : Inv s) (hrun : s.run = .executing) (h : tick now s = .next t) :
    t.run = .idle ∨ t.run = .executing ∧ instructionsLeft t ≤ instructionsLeft s ∧
      (holding now s.holdStart s.holdTime = false → instructionsLeft t < instructionsLeft s) := by
  have hsame : instructionsLeft (clearHold (latchClock now s)) = instructionsLeft s := rfl
  obtain ⟨hidle | hhold, rfl⟩ | ⟨-, -, -, rfl⟩ | ⟨-, hpc, i, after, -, hexec⟩ | ⟨-, hpc, e, -, rfl⟩ := tick_next_cases h
  · exact nomatch hrun.symm.trans hidle
  · exact .inr ⟨hrun, Nat.le_refl _, fun hnone => nomatch hhold.symm.trans hnone⟩
  · exact .inl rfl
  · obtain ⟨hwp, hrun', -⟩ := exec_keeps hexec
    have hlt := instructionsLeft_lt_of_moves (inv_beforeFetch hinv hrun now) hpc hwp (exec_moves hexec)
    exact .inr ⟨hrun'.trans hrun, (hsame ▸ hlt).le, fun _ => hsame ▸ hlt⟩
  · have hlt := instructionsLeft_truncated_lt (s := clearHold (latchClock now s)) hpc
    exact .inr ⟨hrun, (hsame ▸ hlt).le, fun _ => hsame ▸ hlt⟩

theorem ticksFrom_succ {clock : Nat → U32} {s t : State} {n : Nat} (h : ticksFrom clock s n = .next t) :
    ticksFrom clock s (n + 1) = tick (clock n) t := by
  simp only [ticksFrom, h]

/-- After `n` ticks the run is still on, the invariant holds, and at most `b` instructions are left. -/
def StillRunning (clock : Nat → U32) (s : State) (n b : Nat) : Prop :=
  ∃ t, ticksFrom clock s n = .next t ∧ Inv t ∧ t.run = .executing ∧ instructionsLeft t ≤ b

/-- After some number of ticks the machine is Idle. -/
def Finishes (clock : Nat → U32) (s : State) : Prop := ∃ n t, ticksFrom clock s n = .next t ∧ t.run = .idle

theorem StillRunning.succ {clock : Nat → U32} {s : State} {n b : Nat} (h : StillRunning clock s n b) :
    Finishes clock s ∨ StillRunning clock s (n + 1) b := by
  obtain ⟨t, ht, hinv, hrun, hleft⟩ := h
  obtain ⟨u, hu⟩ := tick_goes_of_inv hinv (clock n)
  have hnext := (ticksFrom_succ ht).trans hu
  obtain hidle | ⟨hrun', hle, -⟩ := tick_progress hinv hrun hu
  · exact .inl ⟨n + 1, u, hnext, hidle⟩
  · exact .inr ⟨u, hnext, inv_tick hinv hu, hrun', hle.trans hleft⟩

theorem StillRunning.later {clock : Nat → U32} {s : State} {n m b : Nat} (h : StillRunning clock s n b) (hm : n ≤ m) :
    Finishes clock s ∨ StillRunning clock s m b := by
  induction hm with
  | refl => exact .inr h
  | step _ ih => exact ih.elim .inl StillRunning.succ

/-- A tick that finds no hold in force ends the run or runs an instruction. -/
theorem StillRunning.past_hold {clock : Nat → U32} {s u : State} {m b : Nat} (h : StillRunning clock s m b)
    (hu : ticksFrom clock s m = .next u) (hhold : holding (clock m) u.holdStart u.holdTime = false) :
    Finishes clock s ∨ ∃ b', b' < b ∧ StillRunning clock s (m + 1) b' := by
  obtain ⟨t, ht, hinv, hrun, hleft⟩ := h
  obtain rfl := Host.Outcome.next.inj (ht.symm.trans hu)
  obtain ⟨v, hv⟩ := tick_goes_of_inv hinv (clock m)
  have hnext := (ticksFrom_succ ht).trans hv
  obtain hidle | ⟨hrun', -, hlt⟩ := tick_progress hinv hrun hv
  · exact .inl ⟨m + 1, v, hnext, hidle⟩
  · exact .inr ⟨_, (hlt hhold).trans_le hleft, v, hnext, inv_tick hinv hv, hrun', Nat.le_refl _⟩

/-- Settles O60: holds end by the premise, and between them the bound falls. -/
theorem everyRunFinishes : Obligations.EveryRunFinishes := by
  intro s clock hinv hrun hfair
  suffices hfinish : ∀ b n, StillRunning clock s n b → Finishes clock s from
    hfinish _ 0 ⟨s, rfl, hinv, hrun, Nat.le_refl _⟩
  intro b
  induction b using Nat.strong_induction_on with
  | h b ih =>
    intro n h
    have ⟨t, ht, _⟩ := h
    obtain ⟨m, u, hnm, hu, hhold⟩ := hfair n t ht
    obtain hdone | hm := h.later hnm
    · exact hdone
    obtain hdone | ⟨b', hb', hnext⟩ := hm.past_hold hu hhold
    · exact hdone
    · exact ih b' hb' (m + 1) hnext

end Sys2Proof.Machine
end
